-- ==== Sys2Proof/Word.lean ====
section
/-! DEFINITION. The two word types of the core: bytes and bus addresses (00_scope.md section 4: the data width is
8 bits, the address width 16 bits). -/

namespace Sys2Proof

/-- `u8` of the spec: register contents, operand bytes, memory bytes. -/
abbrev Byte := BitVec 8

/-- `u16` of the spec: bus addresses and the program counter. Addition wraps modulo 2^16. -/
abbrev Addr := BitVec 16

end Sys2Proof
end

