-- ==== Sys2Proof/Syntax.lean ====
section
/-! DEFINITION. The instructions as syntax: the addressing modes (30_encoding.md R81), the mnemonics, and one
constructor of `Instr` for each row of `opcode_table.json` (30_encoding.md R85), with its operand bytes decoded:
a one-byte operand is a `Byte`, an absolute address `b2:b1` an `Addr` (R83). At the end, an assembly statement as it is written (R89). -/

namespace Sys2Proof

/-- The 13 addressing modes of 30_encoding.md R81. -/
inductive Mode where
  | imp
  | acc
  | imm
  | zp
  | zpx
  | zpy
  | abs
  | absx
  | absy
  | ind
  | indx
  | indy
  | rel
  deriving DecidableEq, Repr

/-- The operand-byte count of a mode (30_encoding.md R81). BRK's padding byte is the one exception (R82). -/
def Mode.operandBytes : Mode → Nat
  | .imp | .acc => 0
  | .imm | .zp | .zpx | .zpy | .indx | .indy | .rel => 1
  | .abs | .absx | .absy | .ind => 2

/-- The 56 mnemonics of 30_encoding.md R85. -/
inductive Mnemonic where
  | adc | and | asl | bcc | bcs | beq | bit | bmi
  | bne | bpl | brk | bvc | bvs | clc | cld | cli
  | clv | cmp | cpx | cpy | dec | dex | dey | eor
  | inc | inx | iny | jmp | jsr | lda | ldx | ldy
  | lsr | nop | ora | pha | php | pla | plp | rol
  | ror | rti | rts | sbc | sec | sed | sei | sta
  | stx | sty | tax | tay | tsx | txa | txs | tya
  deriving DecidableEq, Repr

/-- The instruction classes of 40_step_and_addressing.md R122. -/
inductive InstrClass where
  | read
  | store
  | readModifyWrite
  | registerOnly
  | stack
  | control
  deriving DecidableEq, Repr

/-- The implemented instructions: one constructor for each row of `opcode_table.json`, in the table's order.
`v` is an immediate, `b` a zero-page address or pointer, `w` an absolute address or pointer, `off` a branch offset,
`pad` BRK's padding byte. -/
inductive Instr where
  /-- BRK imp, 0x00, 45_control_transfer.md R222 -/
  | brk (pad : Byte)
  /-- ORA indx, 0x01, 43_alu.md R176 -/
  | oraIndx (b : Byte)
  /-- ORA zp, 0x05, 43_alu.md R176 -/
  | oraZp (b : Byte)
  /-- ASL zp, 0x06, 44_inc_dec_shift.md R197 -/
  | aslZp (b : Byte)
  /-- PHP imp, 0x08, 42_stack.md R161 -/
  | php
  /-- ORA imm, 0x09, 43_alu.md R176 -/
  | oraImm (v : Byte)
  /-- ASL acc, 0x0A, 44_inc_dec_shift.md R197 -/
  | aslAcc
  /-- ORA abs, 0x0D, 43_alu.md R176 -/
  | oraAbs (w : Addr)
  /-- ASL abs, 0x0E, 44_inc_dec_shift.md R197 -/
  | aslAbs (w : Addr)
  /-- BPL rel, 0x10, 45_control_transfer.md R216 -/
  | bpl (off : Byte)
  /-- ORA indy, 0x11, 43_alu.md R176 -/
  | oraIndy (b : Byte)
  /-- ORA zpx, 0x15, 43_alu.md R176 -/
  | oraZpx (b : Byte)
  /-- ASL zpx, 0x16, 44_inc_dec_shift.md R197 -/
  | aslZpx (b : Byte)
  /-- CLC imp, 0x18, 46_flags_nop.md R230 -/
  | clc
  /-- ORA absy, 0x19, 43_alu.md R176 -/
  | oraAbsy (w : Addr)
  /-- ORA absx, 0x1D, 43_alu.md R176 -/
  | oraAbsx (w : Addr)
  /-- ASL absx, 0x1E, 44_inc_dec_shift.md R197 -/
  | aslAbsx (w : Addr)
  /-- JSR abs, 0x20, 45_control_transfer.md R220 -/
  | jsr (w : Addr)
  /-- AND indx, 0x21, 43_alu.md R175 -/
  | andIndx (b : Byte)
  /-- BIT zp, 0x24, 43_alu.md R181 -/
  | bitZp (b : Byte)
  /-- AND zp, 0x25, 43_alu.md R175 -/
  | andZp (b : Byte)
  /-- ROL zp, 0x26, 44_inc_dec_shift.md R199 -/
  | rolZp (b : Byte)
  /-- PLP imp, 0x28, 42_stack.md R163 -/
  | plp
  /-- AND imm, 0x29, 43_alu.md R175 -/
  | andImm (v : Byte)
  /-- ROL acc, 0x2A, 44_inc_dec_shift.md R199 -/
  | rolAcc
  /-- BIT abs, 0x2C, 43_alu.md R181 -/
  | bitAbs (w : Addr)
  /-- AND abs, 0x2D, 43_alu.md R175 -/
  | andAbs (w : Addr)
  /-- ROL abs, 0x2E, 44_inc_dec_shift.md R199 -/
  | rolAbs (w : Addr)
  /-- BMI rel, 0x30, 45_control_transfer.md R214 -/
  | bmi (off : Byte)
  /-- AND indy, 0x31, 43_alu.md R175 -/
  | andIndy (b : Byte)
  /-- AND zpx, 0x35, 43_alu.md R175 -/
  | andZpx (b : Byte)
  /-- ROL zpx, 0x36, 44_inc_dec_shift.md R199 -/
  | rolZpx (b : Byte)
  /-- SEC imp, 0x38, 46_flags_nop.md R231 -/
  | sec
  /-- AND absy, 0x39, 43_alu.md R175 -/
  | andAbsy (w : Addr)
  /-- AND absx, 0x3D, 43_alu.md R175 -/
  | andAbsx (w : Addr)
  /-- ROL absx, 0x3E, 44_inc_dec_shift.md R199 -/
  | rolAbsx (w : Addr)
  /-- RTI imp, 0x40, 45_control_transfer.md R223 -/
  | rti
  /-- EOR indx, 0x41, 43_alu.md R177 -/
  | eorIndx (b : Byte)
  /-- EOR zp, 0x45, 43_alu.md R177 -/
  | eorZp (b : Byte)
  /-- LSR zp, 0x46, 44_inc_dec_shift.md R198 -/
  | lsrZp (b : Byte)
  /-- PHA imp, 0x48, 42_stack.md R160 -/
  | pha
  /-- EOR imm, 0x49, 43_alu.md R177 -/
  | eorImm (v : Byte)
  /-- LSR acc, 0x4A, 44_inc_dec_shift.md R198 -/
  | lsrAcc
  /-- JMP abs, 0x4C, 45_control_transfer.md R219 -/
  | jmpAbs (w : Addr)
  /-- EOR abs, 0x4D, 43_alu.md R177 -/
  | eorAbs (w : Addr)
  /-- LSR abs, 0x4E, 44_inc_dec_shift.md R198 -/
  | lsrAbs (w : Addr)
  /-- BVC rel, 0x50, 45_control_transfer.md R217 -/
  | bvc (off : Byte)
  /-- EOR indy, 0x51, 43_alu.md R177 -/
  | eorIndy (b : Byte)
  /-- EOR zpx, 0x55, 43_alu.md R177 -/
  | eorZpx (b : Byte)
  /-- LSR zpx, 0x56, 44_inc_dec_shift.md R198 -/
  | lsrZpx (b : Byte)
  /-- CLI imp, 0x58, 46_flags_nop.md R232 -/
  | cli
  /-- EOR absy, 0x59, 43_alu.md R177 -/
  | eorAbsy (w : Addr)
  /-- EOR absx, 0x5D, 43_alu.md R177 -/
  | eorAbsx (w : Addr)
  /-- LSR absx, 0x5E, 44_inc_dec_shift.md R198 -/
  | lsrAbsx (w : Addr)
  /-- RTS imp, 0x60, 45_control_transfer.md R221 -/
  | rts
  /-- ADC indx, 0x61, 43_alu.md R173 -/
  | adcIndx (b : Byte)
  /-- ADC zp, 0x65, 43_alu.md R173 -/
  | adcZp (b : Byte)
  /-- ROR zp, 0x66, 44_inc_dec_shift.md R200 -/
  | rorZp (b : Byte)
  /-- PLA imp, 0x68, 42_stack.md R162 -/
  | pla
  /-- ADC imm, 0x69, 43_alu.md R173 -/
  | adcImm (v : Byte)
  /-- ROR acc, 0x6A, 44_inc_dec_shift.md R200 -/
  | rorAcc
  /-- JMP ind, 0x6C, 45_control_transfer.md R219 -/
  | jmpInd (w : Addr)
  /-- ADC abs, 0x6D, 43_alu.md R173 -/
  | adcAbs (w : Addr)
  /-- ROR abs, 0x6E, 44_inc_dec_shift.md R200 -/
  | rorAbs (w : Addr)
  /-- BVS rel, 0x70, 45_control_transfer.md R218 -/
  | bvs (off : Byte)
  /-- ADC indy, 0x71, 43_alu.md R173 -/
  | adcIndy (b : Byte)
  /-- ADC zpx, 0x75, 43_alu.md R173 -/
  | adcZpx (b : Byte)
  /-- ROR zpx, 0x76, 44_inc_dec_shift.md R200 -/
  | rorZpx (b : Byte)
  /-- SEI imp, 0x78, 46_flags_nop.md R233 -/
  | sei
  /-- ADC absy, 0x79, 43_alu.md R173 -/
  | adcAbsy (w : Addr)
  /-- ADC absx, 0x7D, 43_alu.md R173 -/
  | adcAbsx (w : Addr)
  /-- ROR absx, 0x7E, 44_inc_dec_shift.md R200 -/
  | rorAbsx (w : Addr)
  /-- STA indx, 0x81, 41_load_store_transfer.md R143 -/
  | staIndx (b : Byte)
  /-- STY zp, 0x84, 41_load_store_transfer.md R145 -/
  | styZp (b : Byte)
  /-- STA zp, 0x85, 41_load_store_transfer.md R143 -/
  | staZp (b : Byte)
  /-- STX zp, 0x86, 41_load_store_transfer.md R144 -/
  | stxZp (b : Byte)
  /-- DEY imp, 0x88, 44_inc_dec_shift.md R196 -/
  | dey
  /-- TXA imp, 0x8A, 41_load_store_transfer.md R148 -/
  | txa
  /-- STY abs, 0x8C, 41_load_store_transfer.md R145 -/
  | styAbs (w : Addr)
  /-- STA abs, 0x8D, 41_load_store_transfer.md R143 -/
  | staAbs (w : Addr)
  /-- STX abs, 0x8E, 41_load_store_transfer.md R144 -/
  | stxAbs (w : Addr)
  /-- BCC rel, 0x90, 45_control_transfer.md R211 -/
  | bcc (off : Byte)
  /-- STA indy, 0x91, 41_load_store_transfer.md R143 -/
  | staIndy (b : Byte)
  /-- STY zpx, 0x94, 41_load_store_transfer.md R145 -/
  | styZpx (b : Byte)
  /-- STA zpx, 0x95, 41_load_store_transfer.md R143 -/
  | staZpx (b : Byte)
  /-- STX zpy, 0x96, 41_load_store_transfer.md R144 -/
  | stxZpy (b : Byte)
  /-- TYA imp, 0x98, 41_load_store_transfer.md R149 -/
  | tya
  /-- STA absy, 0x99, 41_load_store_transfer.md R143 -/
  | staAbsy (w : Addr)
  /-- TXS imp, 0x9A, 41_load_store_transfer.md R151 -/
  | txs
  /-- STA absx, 0x9D, 41_load_store_transfer.md R143 -/
  | staAbsx (w : Addr)
  /-- LDY imm, 0xA0, 41_load_store_transfer.md R142 -/
  | ldyImm (v : Byte)
  /-- LDA indx, 0xA1, 41_load_store_transfer.md R140 -/
  | ldaIndx (b : Byte)
  /-- LDX imm, 0xA2, 41_load_store_transfer.md R141 -/
  | ldxImm (v : Byte)
  /-- LDY zp, 0xA4, 41_load_store_transfer.md R142 -/
  | ldyZp (b : Byte)
  /-- LDA zp, 0xA5, 41_load_store_transfer.md R140 -/
  | ldaZp (b : Byte)
  /-- LDX zp, 0xA6, 41_load_store_transfer.md R141 -/
  | ldxZp (b : Byte)
  /-- TAY imp, 0xA8, 41_load_store_transfer.md R147 -/
  | tay
  /-- LDA imm, 0xA9, 41_load_store_transfer.md R140 -/
  | ldaImm (v : Byte)
  /-- TAX imp, 0xAA, 41_load_store_transfer.md R146 -/
  | tax
  /-- LDY abs, 0xAC, 41_load_store_transfer.md R142 -/
  | ldyAbs (w : Addr)
  /-- LDA abs, 0xAD, 41_load_store_transfer.md R140 -/
  | ldaAbs (w : Addr)
  /-- LDX abs, 0xAE, 41_load_store_transfer.md R141 -/
  | ldxAbs (w : Addr)
  /-- BCS rel, 0xB0, 45_control_transfer.md R212 -/
  | bcs (off : Byte)
  /-- LDA indy, 0xB1, 41_load_store_transfer.md R140 -/
  | ldaIndy (b : Byte)
  /-- LDY zpx, 0xB4, 41_load_store_transfer.md R142 -/
  | ldyZpx (b : Byte)
  /-- LDA zpx, 0xB5, 41_load_store_transfer.md R140 -/
  | ldaZpx (b : Byte)
  /-- LDX zpy, 0xB6, 41_load_store_transfer.md R141 -/
  | ldxZpy (b : Byte)
  /-- CLV imp, 0xB8, 46_flags_nop.md R234 -/
  | clv
  /-- LDA absy, 0xB9, 41_load_store_transfer.md R140 -/
  | ldaAbsy (w : Addr)
  /-- TSX imp, 0xBA, 41_load_store_transfer.md R150 -/
  | tsx
  /-- LDY absx, 0xBC, 41_load_store_transfer.md R142 -/
  | ldyAbsx (w : Addr)
  /-- LDA absx, 0xBD, 41_load_store_transfer.md R140 -/
  | ldaAbsx (w : Addr)
  /-- LDX absy, 0xBE, 41_load_store_transfer.md R141 -/
  | ldxAbsy (w : Addr)
  /-- CPY imm, 0xC0, 43_alu.md R180 -/
  | cpyImm (v : Byte)
  /-- CMP indx, 0xC1, 43_alu.md R178 -/
  | cmpIndx (b : Byte)
  /-- CPY zp, 0xC4, 43_alu.md R180 -/
  | cpyZp (b : Byte)
  /-- CMP zp, 0xC5, 43_alu.md R178 -/
  | cmpZp (b : Byte)
  /-- DEC zp, 0xC6, 44_inc_dec_shift.md R192 -/
  | decZp (b : Byte)
  /-- INY imp, 0xC8, 44_inc_dec_shift.md R194 -/
  | iny
  /-- CMP imm, 0xC9, 43_alu.md R178 -/
  | cmpImm (v : Byte)
  /-- DEX imp, 0xCA, 44_inc_dec_shift.md R195 -/
  | dex
  /-- CPY abs, 0xCC, 43_alu.md R180 -/
  | cpyAbs (w : Addr)
  /-- CMP abs, 0xCD, 43_alu.md R178 -/
  | cmpAbs (w : Addr)
  /-- DEC abs, 0xCE, 44_inc_dec_shift.md R192 -/
  | decAbs (w : Addr)
  /-- BNE rel, 0xD0, 45_control_transfer.md R215 -/
  | bne (off : Byte)
  /-- CMP indy, 0xD1, 43_alu.md R178 -/
  | cmpIndy (b : Byte)
  /-- CMP zpx, 0xD5, 43_alu.md R178 -/
  | cmpZpx (b : Byte)
  /-- DEC zpx, 0xD6, 44_inc_dec_shift.md R192 -/
  | decZpx (b : Byte)
  /-- CLD imp, 0xD8, 46_flags_nop.md R235 -/
  | cld
  /-- CMP absy, 0xD9, 43_alu.md R178 -/
  | cmpAbsy (w : Addr)
  /-- CMP absx, 0xDD, 43_alu.md R178 -/
  | cmpAbsx (w : Addr)
  /-- DEC absx, 0xDE, 44_inc_dec_shift.md R192 -/
  | decAbsx (w : Addr)
  /-- CPX imm, 0xE0, 43_alu.md R179 -/
  | cpxImm (v : Byte)
  /-- SBC indx, 0xE1, 43_alu.md R174 -/
  | sbcIndx (b : Byte)
  /-- CPX zp, 0xE4, 43_alu.md R179 -/
  | cpxZp (b : Byte)
  /-- SBC zp, 0xE5, 43_alu.md R174 -/
  | sbcZp (b : Byte)
  /-- INC zp, 0xE6, 44_inc_dec_shift.md R191 -/
  | incZp (b : Byte)
  /-- INX imp, 0xE8, 44_inc_dec_shift.md R193 -/
  | inx
  /-- SBC imm, 0xE9, 43_alu.md R174 -/
  | sbcImm (v : Byte)
  /-- NOP imp, 0xEA, 46_flags_nop.md R237 -/
  | nop
  /-- CPX abs, 0xEC, 43_alu.md R179 -/
  | cpxAbs (w : Addr)
  /-- SBC abs, 0xED, 43_alu.md R174 -/
  | sbcAbs (w : Addr)
  /-- INC abs, 0xEE, 44_inc_dec_shift.md R191 -/
  | incAbs (w : Addr)
  /-- BEQ rel, 0xF0, 45_control_transfer.md R213 -/
  | beq (off : Byte)
  /-- SBC indy, 0xF1, 43_alu.md R174 -/
  | sbcIndy (b : Byte)
  /-- SBC zpx, 0xF5, 43_alu.md R174 -/
  | sbcZpx (b : Byte)
  /-- INC zpx, 0xF6, 44_inc_dec_shift.md R191 -/
  | incZpx (b : Byte)
  /-- SED imp, 0xF8, 46_flags_nop.md R236 -/
  | sed
  /-- SBC absy, 0xF9, 43_alu.md R174 -/
  | sbcAbsy (w : Addr)
  /-- SBC absx, 0xFD, 43_alu.md R174 -/
  | sbcAbsx (w : Addr)
  /-- INC absx, 0xFE, 44_inc_dec_shift.md R191 -/
  | incAbsx (w : Addr)
  deriving DecidableEq, Repr

/-- The mnemonic of an instruction (30_encoding.md R85). -/
def Instr.mnemonic : Instr → Mnemonic
  | .brk _ => .brk
  | .oraIndx _ => .ora
  | .oraZp _ => .ora
  | .aslZp _ => .asl
  | .php => .php
  | .oraImm _ => .ora
  | .aslAcc => .asl
  | .oraAbs _ => .ora
  | .aslAbs _ => .asl
  | .bpl _ => .bpl
  | .oraIndy _ => .ora
  | .oraZpx _ => .ora
  | .aslZpx _ => .asl
  | .clc => .clc
  | .oraAbsy _ => .ora
  | .oraAbsx _ => .ora
  | .aslAbsx _ => .asl
  | .jsr _ => .jsr
  | .andIndx _ => .and
  | .bitZp _ => .bit
  | .andZp _ => .and
  | .rolZp _ => .rol
  | .plp => .plp
  | .andImm _ => .and
  | .rolAcc => .rol
  | .bitAbs _ => .bit
  | .andAbs _ => .and
  | .rolAbs _ => .rol
  | .bmi _ => .bmi
  | .andIndy _ => .and
  | .andZpx _ => .and
  | .rolZpx _ => .rol
  | .sec => .sec
  | .andAbsy _ => .and
  | .andAbsx _ => .and
  | .rolAbsx _ => .rol
  | .rti => .rti
  | .eorIndx _ => .eor
  | .eorZp _ => .eor
  | .lsrZp _ => .lsr
  | .pha => .pha
  | .eorImm _ => .eor
  | .lsrAcc => .lsr
  | .jmpAbs _ => .jmp
  | .eorAbs _ => .eor
  | .lsrAbs _ => .lsr
  | .bvc _ => .bvc
  | .eorIndy _ => .eor
  | .eorZpx _ => .eor
  | .lsrZpx _ => .lsr
  | .cli => .cli
  | .eorAbsy _ => .eor
  | .eorAbsx _ => .eor
  | .lsrAbsx _ => .lsr
  | .rts => .rts
  | .adcIndx _ => .adc
  | .adcZp _ => .adc
  | .rorZp _ => .ror
  | .pla => .pla
  | .adcImm _ => .adc
  | .rorAcc => .ror
  | .jmpInd _ => .jmp
  | .adcAbs _ => .adc
  | .rorAbs _ => .ror
  | .bvs _ => .bvs
  | .adcIndy _ => .adc
  | .adcZpx _ => .adc
  | .rorZpx _ => .ror
  | .sei => .sei
  | .adcAbsy _ => .adc
  | .adcAbsx _ => .adc
  | .rorAbsx _ => .ror
  | .staIndx _ => .sta
  | .styZp _ => .sty
  | .staZp _ => .sta
  | .stxZp _ => .stx
  | .dey => .dey
  | .txa => .txa
  | .styAbs _ => .sty
  | .staAbs _ => .sta
  | .stxAbs _ => .stx
  | .bcc _ => .bcc
  | .staIndy _ => .sta
  | .styZpx _ => .sty
  | .staZpx _ => .sta
  | .stxZpy _ => .stx
  | .tya => .tya
  | .staAbsy _ => .sta
  | .txs => .txs
  | .staAbsx _ => .sta
  | .ldyImm _ => .ldy
  | .ldaIndx _ => .lda
  | .ldxImm _ => .ldx
  | .ldyZp _ => .ldy
  | .ldaZp _ => .lda
  | .ldxZp _ => .ldx
  | .tay => .tay
  | .ldaImm _ => .lda
  | .tax => .tax
  | .ldyAbs _ => .ldy
  | .ldaAbs _ => .lda
  | .ldxAbs _ => .ldx
  | .bcs _ => .bcs
  | .ldaIndy _ => .lda
  | .ldyZpx _ => .ldy
  | .ldaZpx _ => .lda
  | .ldxZpy _ => .ldx
  | .clv => .clv
  | .ldaAbsy _ => .lda
  | .tsx => .tsx
  | .ldyAbsx _ => .ldy
  | .ldaAbsx _ => .lda
  | .ldxAbsy _ => .ldx
  | .cpyImm _ => .cpy
  | .cmpIndx _ => .cmp
  | .cpyZp _ => .cpy
  | .cmpZp _ => .cmp
  | .decZp _ => .dec
  | .iny => .iny
  | .cmpImm _ => .cmp
  | .dex => .dex
  | .cpyAbs _ => .cpy
  | .cmpAbs _ => .cmp
  | .decAbs _ => .dec
  | .bne _ => .bne
  | .cmpIndy _ => .cmp
  | .cmpZpx _ => .cmp
  | .decZpx _ => .dec
  | .cld => .cld
  | .cmpAbsy _ => .cmp
  | .cmpAbsx _ => .cmp
  | .decAbsx _ => .dec
  | .cpxImm _ => .cpx
  | .sbcIndx _ => .sbc
  | .cpxZp _ => .cpx
  | .sbcZp _ => .sbc
  | .incZp _ => .inc
  | .inx => .inx
  | .sbcImm _ => .sbc
  | .nop => .nop
  | .cpxAbs _ => .cpx
  | .sbcAbs _ => .sbc
  | .incAbs _ => .inc
  | .beq _ => .beq
  | .sbcIndy _ => .sbc
  | .sbcZpx _ => .sbc
  | .incZpx _ => .inc
  | .sed => .sed
  | .sbcAbsy _ => .sbc
  | .sbcAbsx _ => .sbc
  | .incAbsx _ => .inc

/-- The addressing mode of an instruction (30_encoding.md R85). -/
def Instr.mode : Instr → Mode
  | .brk _ => .imp
  | .oraIndx _ => .indx
  | .oraZp _ => .zp
  | .aslZp _ => .zp
  | .php => .imp
  | .oraImm _ => .imm
  | .aslAcc => .acc
  | .oraAbs _ => .abs
  | .aslAbs _ => .abs
  | .bpl _ => .rel
  | .oraIndy _ => .indy
  | .oraZpx _ => .zpx
  | .aslZpx _ => .zpx
  | .clc => .imp
  | .oraAbsy _ => .absy
  | .oraAbsx _ => .absx
  | .aslAbsx _ => .absx
  | .jsr _ => .abs
  | .andIndx _ => .indx
  | .bitZp _ => .zp
  | .andZp _ => .zp
  | .rolZp _ => .zp
  | .plp => .imp
  | .andImm _ => .imm
  | .rolAcc => .acc
  | .bitAbs _ => .abs
  | .andAbs _ => .abs
  | .rolAbs _ => .abs
  | .bmi _ => .rel
  | .andIndy _ => .indy
  | .andZpx _ => .zpx
  | .rolZpx _ => .zpx
  | .sec => .imp
  | .andAbsy _ => .absy
  | .andAbsx _ => .absx
  | .rolAbsx _ => .absx
  | .rti => .imp
  | .eorIndx _ => .indx
  | .eorZp _ => .zp
  | .lsrZp _ => .zp
  | .pha => .imp
  | .eorImm _ => .imm
  | .lsrAcc => .acc
  | .jmpAbs _ => .abs
  | .eorAbs _ => .abs
  | .lsrAbs _ => .abs
  | .bvc _ => .rel
  | .eorIndy _ => .indy
  | .eorZpx _ => .zpx
  | .lsrZpx _ => .zpx
  | .cli => .imp
  | .eorAbsy _ => .absy
  | .eorAbsx _ => .absx
  | .lsrAbsx _ => .absx
  | .rts => .imp
  | .adcIndx _ => .indx
  | .adcZp _ => .zp
  | .rorZp _ => .zp
  | .pla => .imp
  | .adcImm _ => .imm
  | .rorAcc => .acc
  | .jmpInd _ => .ind
  | .adcAbs _ => .abs
  | .rorAbs _ => .abs
  | .bvs _ => .rel
  | .adcIndy _ => .indy
  | .adcZpx _ => .zpx
  | .rorZpx _ => .zpx
  | .sei => .imp
  | .adcAbsy _ => .absy
  | .adcAbsx _ => .absx
  | .rorAbsx _ => .absx
  | .staIndx _ => .indx
  | .styZp _ => .zp
  | .staZp _ => .zp
  | .stxZp _ => .zp
  | .dey => .imp
  | .txa => .imp
  | .styAbs _ => .abs
  | .staAbs _ => .abs
  | .stxAbs _ => .abs
  | .bcc _ => .rel
  | .staIndy _ => .indy
  | .styZpx _ => .zpx
  | .staZpx _ => .zpx
  | .stxZpy _ => .zpy
  | .tya => .imp
  | .staAbsy _ => .absy
  | .txs => .imp
  | .staAbsx _ => .absx
  | .ldyImm _ => .imm
  | .ldaIndx _ => .indx
  | .ldxImm _ => .imm
  | .ldyZp _ => .zp
  | .ldaZp _ => .zp
  | .ldxZp _ => .zp
  | .tay => .imp
  | .ldaImm _ => .imm
  | .tax => .imp
  | .ldyAbs _ => .abs
  | .ldaAbs _ => .abs
  | .ldxAbs _ => .abs
  | .bcs _ => .rel
  | .ldaIndy _ => .indy
  | .ldyZpx _ => .zpx
  | .ldaZpx _ => .zpx
  | .ldxZpy _ => .zpy
  | .clv => .imp
  | .ldaAbsy _ => .absy
  | .tsx => .imp
  | .ldyAbsx _ => .absx
  | .ldaAbsx _ => .absx
  | .ldxAbsy _ => .absy
  | .cpyImm _ => .imm
  | .cmpIndx _ => .indx
  | .cpyZp _ => .zp
  | .cmpZp _ => .zp
  | .decZp _ => .zp
  | .iny => .imp
  | .cmpImm _ => .imm
  | .dex => .imp
  | .cpyAbs _ => .abs
  | .cmpAbs _ => .abs
  | .decAbs _ => .abs
  | .bne _ => .rel
  | .cmpIndy _ => .indy
  | .cmpZpx _ => .zpx
  | .decZpx _ => .zpx
  | .cld => .imp
  | .cmpAbsy _ => .absy
  | .cmpAbsx _ => .absx
  | .decAbsx _ => .absx
  | .cpxImm _ => .imm
  | .sbcIndx _ => .indx
  | .cpxZp _ => .zp
  | .sbcZp _ => .zp
  | .incZp _ => .zp
  | .inx => .imp
  | .sbcImm _ => .imm
  | .nop => .imp
  | .cpxAbs _ => .abs
  | .sbcAbs _ => .abs
  | .incAbs _ => .abs
  | .beq _ => .rel
  | .sbcIndy _ => .indy
  | .sbcZpx _ => .zpx
  | .incZpx _ => .zpx
  | .sed => .imp
  | .sbcAbsy _ => .absy
  | .sbcAbsx _ => .absx
  | .incAbsx _ => .absx

/-- The class of an instruction (40_step_and_addressing.md R122). The ACC forms of the shifts are register-only. -/
def Instr.cls (i : Instr) : InstrClass :=
  match i.mnemonic with
  | .lda | .ldx | .ldy | .adc | .sbc | .and | .ora | .eor | .cmp | .cpx | .cpy | .bit => .read
  | .sta | .stx | .sty => .store
  | .inc | .dec => .readModifyWrite
  | .asl | .lsr | .rol | .ror => if i.mode = .acc then .registerOnly else .readModifyWrite
  | .tax | .tay | .txa | .tya | .tsx | .txs | .inx | .iny | .dex | .dey => .registerOnly
  | .clc | .sec | .cli | .sei | .clv | .cld | .sed | .nop => .registerOnly
  | .pha | .php | .pla | .plp => .stack
  | .bcc | .bcs | .beq | .bmi | .bne | .bpl | .bvc | .bvs | .jmp | .jsr | .rts | .brk | .rti => .control

/-- The operand of an assembly statement as it is written (the syntax column of 30_encoding.md R81). The numbers are
what is written, of any size; `WellFormed.lean` says which of them the assembler accepts. -/
inductive AsmOperand where
  /-- nothing written -/
  | none
  /-- `A` -/
  | accumulator
  /-- `#$nn` -/
  | immediate (v : Nat)
  /-- `$nn`, two hexadecimal digits -/
  | short (a : Nat)
  /-- `$nn,X` -/
  | shortX (a : Nat)
  /-- `$nn,Y` -/
  | shortY (a : Nat)
  /-- `$nnnn`, or a label -/
  | long (a : Nat)
  /-- `$nnnn,X` -/
  | longX (a : Nat)
  /-- `$nnnn,Y` -/
  | longY (a : Nat)
  /-- `($nnnn)` -/
  | indirect (a : Nat)
  /-- `($nn,X)` -/
  | indirectX (a : Nat)
  /-- `($nn),Y` -/
  | indirectY (a : Nat)
  deriving DecidableEq, Repr

/-- An assembly statement: a mnemonic followed by an operand form (30_encoding.md R89). -/
structure AsmLine where
  mnemonic : Mnemonic
  operand : AsmOperand
  deriving DecidableEq, Repr

end Sys2Proof
end

