-- ==== Sys2Proof/WellFormed.lean ====
section
/-! DEFINITION. Which instructions and which assembly statements are well formed. An `Instr` carries operands of the
exact width, so what is left to check of it is that its form is one of the map's, and where it may be placed;
an assembly statement (30_encoding.md R89) is checked for its form, its operand's size and its branch reach. -/

namespace Sys2Proof

/-- The forms of a mnemonic and their opcode bytes, as 30_encoding.md section 4 lists them by mnemonic. -/
def Mnemonic.forms : Mnemonic → List (Mode × Byte)
  | .adc => [(.imm, 0x69), (.zp, 0x65), (.zpx, 0x75), (.abs, 0x6D), (.absx, 0x7D), (.absy, 0x79), (.indx, 0x61), (.indy, 0x71)]
  | .and => [(.imm, 0x29), (.zp, 0x25), (.zpx, 0x35), (.abs, 0x2D), (.absx, 0x3D), (.absy, 0x39), (.indx, 0x21), (.indy, 0x31)]
  | .asl => [(.acc, 0x0A), (.zp, 0x06), (.zpx, 0x16), (.abs, 0x0E), (.absx, 0x1E)]
  | .bcc => [(.rel, 0x90)]
  | .bcs => [(.rel, 0xB0)]
  | .beq => [(.rel, 0xF0)]
  | .bit => [(.zp, 0x24), (.abs, 0x2C)]
  | .bmi => [(.rel, 0x30)]
  | .bne => [(.rel, 0xD0)]
  | .bpl => [(.rel, 0x10)]
  | .brk => [(.imp, 0x00)]
  | .bvc => [(.rel, 0x50)]
  | .bvs => [(.rel, 0x70)]
  | .clc => [(.imp, 0x18)]
  | .cld => [(.imp, 0xD8)]
  | .cli => [(.imp, 0x58)]
  | .clv => [(.imp, 0xB8)]
  | .cmp => [(.imm, 0xC9), (.zp, 0xC5), (.zpx, 0xD5), (.abs, 0xCD), (.absx, 0xDD), (.absy, 0xD9), (.indx, 0xC1), (.indy, 0xD1)]
  | .cpx => [(.imm, 0xE0), (.zp, 0xE4), (.abs, 0xEC)]
  | .cpy => [(.imm, 0xC0), (.zp, 0xC4), (.abs, 0xCC)]
  | .dec => [(.zp, 0xC6), (.zpx, 0xD6), (.abs, 0xCE), (.absx, 0xDE)]
  | .dex => [(.imp, 0xCA)]
  | .dey => [(.imp, 0x88)]
  | .eor => [(.imm, 0x49), (.zp, 0x45), (.zpx, 0x55), (.abs, 0x4D), (.absx, 0x5D), (.absy, 0x59), (.indx, 0x41), (.indy, 0x51)]
  | .inc => [(.zp, 0xE6), (.zpx, 0xF6), (.abs, 0xEE), (.absx, 0xFE)]
  | .inx => [(.imp, 0xE8)]
  | .iny => [(.imp, 0xC8)]
  | .jmp => [(.abs, 0x4C), (.ind, 0x6C)]
  | .jsr => [(.abs, 0x20)]
  | .lda => [(.imm, 0xA9), (.zp, 0xA5), (.zpx, 0xB5), (.abs, 0xAD), (.absx, 0xBD), (.absy, 0xB9), (.indx, 0xA1), (.indy, 0xB1)]
  | .ldx => [(.imm, 0xA2), (.zp, 0xA6), (.zpy, 0xB6), (.abs, 0xAE), (.absy, 0xBE)]
  | .ldy => [(.imm, 0xA0), (.zp, 0xA4), (.zpx, 0xB4), (.abs, 0xAC), (.absx, 0xBC)]
  | .lsr => [(.acc, 0x4A), (.zp, 0x46), (.zpx, 0x56), (.abs, 0x4E), (.absx, 0x5E)]
  | .nop => [(.imp, 0xEA)]
  | .ora => [(.imm, 0x09), (.zp, 0x05), (.zpx, 0x15), (.abs, 0x0D), (.absx, 0x1D), (.absy, 0x19), (.indx, 0x01), (.indy, 0x11)]
  | .pha => [(.imp, 0x48)]
  | .php => [(.imp, 0x08)]
  | .pla => [(.imp, 0x68)]
  | .plp => [(.imp, 0x28)]
  | .rol => [(.acc, 0x2A), (.zp, 0x26), (.zpx, 0x36), (.abs, 0x2E), (.absx, 0x3E)]
  | .ror => [(.acc, 0x6A), (.zp, 0x66), (.zpx, 0x76), (.abs, 0x6E), (.absx, 0x7E)]
  | .rti => [(.imp, 0x40)]
  | .rts => [(.imp, 0x60)]
  | .sbc => [(.imm, 0xE9), (.zp, 0xE5), (.zpx, 0xF5), (.abs, 0xED), (.absx, 0xFD), (.absy, 0xF9), (.indx, 0xE1), (.indy, 0xF1)]
  | .sec => [(.imp, 0x38)]
  | .sed => [(.imp, 0xF8)]
  | .sei => [(.imp, 0x78)]
  | .sta => [(.zp, 0x85), (.zpx, 0x95), (.abs, 0x8D), (.absx, 0x9D), (.absy, 0x99), (.indx, 0x81), (.indy, 0x91)]
  | .stx => [(.zp, 0x86), (.zpy, 0x96), (.abs, 0x8E)]
  | .sty => [(.zp, 0x84), (.zpx, 0x94), (.abs, 0x8C)]
  | .tax => [(.imp, 0xAA)]
  | .tay => [(.imp, 0xA8)]
  | .tsx => [(.imp, 0xBA)]
  | .txa => [(.imp, 0x8A)]
  | .txs => [(.imp, 0x9A)]
  | .tya => [(.imp, 0x98)]

/-- The opcode byte of a mnemonic in a mode, if the mnemonic has that form (30_encoding.md section 4). -/
def Mnemonic.opcode? (m : Mnemonic) (mode : Mode) : Option Byte :=
  (m.forms.find? (fun f => f.1 == mode)).map (fun f => f.2)

/-- An instruction's form is one of the 151 cells of the opcode map (30_encoding.md R85). The operands need no check:
their types have the encoded widths. -/
def Instr.wellFormed (i : Instr) : Bool := (i.mnemonic.opcode? i.mode).isSome

/-- The operand bytes that follow an instruction's opcode byte: those of its mode, and for BRK one padding byte
(30_encoding.md R82). -/
def Instr.operandBytes (i : Instr) : Nat :=
  if i.mnemonic = .brk then 1 else i.mode.operandBytes

/-- An instruction at `pc` lies inside the address space: its last byte is at most at 0xFFFF
(40_step_and_addressing.md R101: an instruction never has bytes beyond 0xFFFF). -/
def Instr.fitsAt (i : Instr) (pc : Addr) : Bool := pc.toNat + i.operandBytes ≤ 0xFFFF

/-- The modes a written operand can stand for (30_encoding.md R81, R89). A zero-page form is taken only for an operand
written with two digits (log 15). -/
def AsmOperand.modes : AsmOperand → List Mode
  | .none => [.imp, .acc]
  | .accumulator => [.acc]
  | .immediate _ => [.imm]
  | .short _ => [.zp]
  | .shortX _ => [.zpx]
  | .shortY _ => [.zpy]
  | .long _ => [.abs, .rel]
  | .longX _ => [.absx]
  | .longY _ => [.absy]
  | .indirect _ => [.ind]
  | .indirectX _ => [.indx]
  | .indirectY _ => [.indy]

/-- The number written in an operand. -/
def AsmOperand.value : AsmOperand → Nat
  | .none | .accumulator => 0
  | .immediate n | .short n | .shortX n | .shortY n | .long n | .longX n | .longY n | .indirect n | .indirectX n
  | .indirectY n => n

/-- The size check of an operand: two digits hold a byte, four an address. -/
def AsmOperand.fits : AsmOperand → Bool
  | .none | .accumulator => true
  | .immediate n | .short n | .shortX n | .shortY n | .indirectX n | .indirectY n => n ≤ 0xFF
  | .long n | .longX n | .longY n | .indirect n => n ≤ 0xFFFF

/-- The mode of a statement: the first its operand can stand for that its mnemonic has. -/
def AsmLine.mode? (l : AsmLine) : Option Mode :=
  l.operand.modes.find? (fun m => (l.mnemonic.opcode? m).isSome)

/-- The form check of a statement: its mnemonic has a form with that operand. -/
def AsmLine.formOk (l : AsmLine) : Bool := l.mode?.isSome

/-- The reach check of a branch (30_encoding.md R89): the target is in [pc + 2 - 128, pc + 2 + 127]. -/
def AsmLine.reaches (l : AsmLine) (pc : Addr) : Bool :=
  l.mode? != some .rel || (pc.toNat + 2 ≤ l.operand.value + 128 && l.operand.value ≤ pc.toNat + 2 + 127)

/-- A statement the assembler accepts at `pc` (30_encoding.md R89). -/
def AsmLine.wellFormed (l : AsmLine) (pc : Addr) : Bool :=
  l.formOk && l.operand.fits && l.reaches pc

end Sys2Proof
end

