-- ==== Sys2Proof/Decode.lean ====
section
/-! DEFINITION. The decoder, total on any bytes and rejecting by name, the encoder, and the assembler of one statement.
The opcode map (30_encoding.md R85) and the length table (R82, R87) are two tables here, as the source has them;
`Obligations.LengthTableAgreesWithDispatch` states that they agree (70_reset_and_hazards.md R283). -/

namespace Sys2Proof

/-! ## Byte order and extension -/

/-- `hi:lo`, two bytes into an address (00_scope.md section 5). -/
def hilo (hi lo : Byte) : Addr := hi ++ lo

/-- `v[7:0]` of an address. -/
def loByte (w : Addr) : Byte := w.extractLsb' 0 8

/-- `v[15:8]` of an address. -/
def hiByte (w : Addr) : Byte := w.extractLsb' 8 8

/-- `zext_16` of a byte. -/
def zext16 (b : Byte) : Addr := b.setWidth 16

/-- `sext_16` of a byte (30_encoding.md R83). -/
def sext16 (b : Byte) : Addr := b.signExtend 16

/-! ## The dispatch table -/

/-- An entry of the 256-entry dispatch table: the sentinel, or how an instruction is made from its operand bytes. -/
inductive DispatchEntry where
  /-- the sentinel handler of an unimplemented opcode (30_encoding.md R86) -/
  | sentinel
  /-- no operand byte is used -/
  | op0 (i : Instr)
  /-- made from b1 -/
  | op1 (f : Byte → Instr)
  /-- made from the address b2:b1 (30_encoding.md R83) -/
  | op2 (f : Addr → Instr)

/-- Row 0x of the opcode map of 30_encoding.md R85. -/
def dispatchRow0 : List DispatchEntry :=
  [.op1 .brk, .op1 .oraIndx, .sentinel, .sentinel, .sentinel, .op1 .oraZp, .op1 .aslZp, .sentinel,
   .op0 .php, .op1 .oraImm, .op0 .aslAcc, .sentinel, .sentinel, .op2 .oraAbs, .op2 .aslAbs, .sentinel]

/-- Row 1x of the opcode map of 30_encoding.md R85. -/
def dispatchRow1 : List DispatchEntry :=
  [.op1 .bpl, .op1 .oraIndy, .sentinel, .sentinel, .sentinel, .op1 .oraZpx, .op1 .aslZpx, .sentinel,
   .op0 .clc, .op2 .oraAbsy, .sentinel, .sentinel, .sentinel, .op2 .oraAbsx, .op2 .aslAbsx, .sentinel]

/-- Row 2x of the opcode map of 30_encoding.md R85. -/
def dispatchRow2 : List DispatchEntry :=
  [.op2 .jsr, .op1 .andIndx, .sentinel, .sentinel, .op1 .bitZp, .op1 .andZp, .op1 .rolZp, .sentinel,
   .op0 .plp, .op1 .andImm, .op0 .rolAcc, .sentinel, .op2 .bitAbs, .op2 .andAbs, .op2 .rolAbs, .sentinel]

/-- Row 3x of the opcode map of 30_encoding.md R85. -/
def dispatchRow3 : List DispatchEntry :=
  [.op1 .bmi, .op1 .andIndy, .sentinel, .sentinel, .sentinel, .op1 .andZpx, .op1 .rolZpx, .sentinel,
   .op0 .sec, .op2 .andAbsy, .sentinel, .sentinel, .sentinel, .op2 .andAbsx, .op2 .rolAbsx, .sentinel]

/-- Row 4x of the opcode map of 30_encoding.md R85. -/
def dispatchRow4 : List DispatchEntry :=
  [.op0 .rti, .op1 .eorIndx, .sentinel, .sentinel, .sentinel, .op1 .eorZp, .op1 .lsrZp, .sentinel,
   .op0 .pha, .op1 .eorImm, .op0 .lsrAcc, .sentinel, .op2 .jmpAbs, .op2 .eorAbs, .op2 .lsrAbs, .sentinel]

/-- Row 5x of the opcode map of 30_encoding.md R85. -/
def dispatchRow5 : List DispatchEntry :=
  [.op1 .bvc, .op1 .eorIndy, .sentinel, .sentinel, .sentinel, .op1 .eorZpx, .op1 .lsrZpx, .sentinel,
   .op0 .cli, .op2 .eorAbsy, .sentinel, .sentinel, .sentinel, .op2 .eorAbsx, .op2 .lsrAbsx, .sentinel]

/-- Row 6x of the opcode map of 30_encoding.md R85. -/
def dispatchRow6 : List DispatchEntry :=
  [.op0 .rts, .op1 .adcIndx, .sentinel, .sentinel, .sentinel, .op1 .adcZp, .op1 .rorZp, .sentinel,
   .op0 .pla, .op1 .adcImm, .op0 .rorAcc, .sentinel, .op2 .jmpInd, .op2 .adcAbs, .op2 .rorAbs, .sentinel]

/-- Row 7x of the opcode map of 30_encoding.md R85. -/
def dispatchRow7 : List DispatchEntry :=
  [.op1 .bvs, .op1 .adcIndy, .sentinel, .sentinel, .sentinel, .op1 .adcZpx, .op1 .rorZpx, .sentinel,
   .op0 .sei, .op2 .adcAbsy, .sentinel, .sentinel, .sentinel, .op2 .adcAbsx, .op2 .rorAbsx, .sentinel]

/-- Row 8x of the opcode map of 30_encoding.md R85. -/
def dispatchRow8 : List DispatchEntry :=
  [.sentinel, .op1 .staIndx, .sentinel, .sentinel, .op1 .styZp, .op1 .staZp, .op1 .stxZp, .sentinel,
   .op0 .dey, .sentinel, .op0 .txa, .sentinel, .op2 .styAbs, .op2 .staAbs, .op2 .stxAbs, .sentinel]

/-- Row 9x of the opcode map of 30_encoding.md R85. -/
def dispatchRow9 : List DispatchEntry :=
  [.op1 .bcc, .op1 .staIndy, .sentinel, .sentinel, .op1 .styZpx, .op1 .staZpx, .op1 .stxZpy, .sentinel,
   .op0 .tya, .op2 .staAbsy, .op0 .txs, .sentinel, .sentinel, .op2 .staAbsx, .sentinel, .sentinel]

/-- Row Ax of the opcode map of 30_encoding.md R85. -/
def dispatchRowA : List DispatchEntry :=
  [.op1 .ldyImm, .op1 .ldaIndx, .op1 .ldxImm, .sentinel, .op1 .ldyZp, .op1 .ldaZp, .op1 .ldxZp, .sentinel,
   .op0 .tay, .op1 .ldaImm, .op0 .tax, .sentinel, .op2 .ldyAbs, .op2 .ldaAbs, .op2 .ldxAbs, .sentinel]

/-- Row Bx of the opcode map of 30_encoding.md R85. -/
def dispatchRowB : List DispatchEntry :=
  [.op1 .bcs, .op1 .ldaIndy, .sentinel, .sentinel, .op1 .ldyZpx, .op1 .ldaZpx, .op1 .ldxZpy, .sentinel,
   .op0 .clv, .op2 .ldaAbsy, .op0 .tsx, .sentinel, .op2 .ldyAbsx, .op2 .ldaAbsx, .op2 .ldxAbsy, .sentinel]

/-- Row Cx of the opcode map of 30_encoding.md R85. -/
def dispatchRowC : List DispatchEntry :=
  [.op1 .cpyImm, .op1 .cmpIndx, .sentinel, .sentinel, .op1 .cpyZp, .op1 .cmpZp, .op1 .decZp, .sentinel,
   .op0 .iny, .op1 .cmpImm, .op0 .dex, .sentinel, .op2 .cpyAbs, .op2 .cmpAbs, .op2 .decAbs, .sentinel]

/-- Row Dx of the opcode map of 30_encoding.md R85. -/
def dispatchRowD : List DispatchEntry :=
  [.op1 .bne, .op1 .cmpIndy, .sentinel, .sentinel, .sentinel, .op1 .cmpZpx, .op1 .decZpx, .sentinel,
   .op0 .cld, .op2 .cmpAbsy, .sentinel, .sentinel, .sentinel, .op2 .cmpAbsx, .op2 .decAbsx, .sentinel]

/-- Row Ex of the opcode map of 30_encoding.md R85. -/
def dispatchRowE : List DispatchEntry :=
  [.op1 .cpxImm, .op1 .sbcIndx, .sentinel, .sentinel, .op1 .cpxZp, .op1 .sbcZp, .op1 .incZp, .sentinel,
   .op0 .inx, .op1 .sbcImm, .op0 .nop, .sentinel, .op2 .cpxAbs, .op2 .sbcAbs, .op2 .incAbs, .sentinel]

/-- Row Fx of the opcode map of 30_encoding.md R85. -/
def dispatchRowF : List DispatchEntry :=
  [.op1 .beq, .op1 .sbcIndy, .sentinel, .sentinel, .sentinel, .op1 .sbcZpx, .op1 .incZpx, .sentinel,
   .op0 .sed, .op2 .sbcAbsy, .sentinel, .sentinel, .sentinel, .op2 .sbcAbsx, .op2 .incAbsx, .sentinel]

/-- The opcode map of 30_encoding.md R85, in opcode order. -/
def dispatchTable : List DispatchEntry :=
  dispatchRow0 ++ dispatchRow1 ++ dispatchRow2 ++ dispatchRow3 ++ dispatchRow4 ++ dispatchRow5 ++ dispatchRow6 ++
    dispatchRow7 ++ dispatchRow8 ++ dispatchRow9 ++ dispatchRowA ++ dispatchRowB ++ dispatchRowC ++ dispatchRowD ++
    dispatchRowE ++ dispatchRowF

/-- The dispatch entry of an opcode byte (30_encoding.md R88). -/
def dispatchEntry (op : Byte) : DispatchEntry := dispatchTable.getD op.toNat .sentinel

/-! ## The length table -/

/-- Row 0x of the length table: 30_encoding.md R82 for the implemented opcodes, R87 for the others. -/
def oplenRow0 : List Nat := [1, 1, 0, 1, 1, 1, 1, 1, 0, 1, 0, 1, 2, 2, 2, 2]

/-- Row 1x of the length table: 30_encoding.md R82 for the implemented opcodes, R87 for the others. -/
def oplenRow1 : List Nat := [1, 1, 0, 1, 1, 1, 1, 1, 0, 2, 0, 2, 2, 2, 2, 2]

/-- Row 2x of the length table: 30_encoding.md R82 for the implemented opcodes, R87 for the others. -/
def oplenRow2 : List Nat := [2, 1, 0, 1, 1, 1, 1, 1, 0, 1, 0, 1, 2, 2, 2, 2]

/-- Row 3x of the length table: 30_encoding.md R82 for the implemented opcodes, R87 for the others. -/
def oplenRow3 : List Nat := [1, 1, 0, 1, 1, 1, 1, 1, 0, 2, 0, 2, 2, 2, 2, 2]

/-- Row 4x of the length table: 30_encoding.md R82 for the implemented opcodes, R87 for the others. -/
def oplenRow4 : List Nat := [0, 1, 0, 1, 1, 1, 1, 1, 0, 1, 0, 1, 2, 2, 2, 2]

/-- Row 5x of the length table: 30_encoding.md R82 for the implemented opcodes, R87 for the others. -/
def oplenRow5 : List Nat := [1, 1, 0, 1, 1, 1, 1, 1, 0, 2, 0, 2, 2, 2, 2, 2]

/-- Row 6x of the length table: 30_encoding.md R82 for the implemented opcodes, R87 for the others. -/
def oplenRow6 : List Nat := [0, 1, 0, 1, 1, 1, 1, 1, 0, 1, 0, 1, 2, 2, 2, 2]

/-- Row 7x of the length table: 30_encoding.md R82 for the implemented opcodes, R87 for the others. -/
def oplenRow7 : List Nat := [1, 1, 0, 1, 1, 1, 1, 1, 0, 2, 0, 2, 2, 2, 2, 2]

/-- Row 8x of the length table: 30_encoding.md R82 for the implemented opcodes, R87 for the others. -/
def oplenRow8 : List Nat := [1, 1, 1, 1, 1, 1, 1, 1, 0, 1, 0, 1, 2, 2, 2, 2]

/-- Row 9x of the length table: 30_encoding.md R82 for the implemented opcodes, R87 for the others. -/
def oplenRow9 : List Nat := [1, 1, 0, 1, 1, 1, 1, 1, 0, 2, 0, 2, 2, 2, 2, 2]

/-- Row Ax of the length table: 30_encoding.md R82 for the implemented opcodes, R87 for the others. -/
def oplenRowA : List Nat := [1, 1, 1, 1, 1, 1, 1, 1, 0, 1, 0, 1, 2, 2, 2, 2]

/-- Row Bx of the length table: 30_encoding.md R82 for the implemented opcodes, R87 for the others. -/
def oplenRowB : List Nat := [1, 1, 0, 1, 1, 1, 1, 1, 0, 2, 0, 2, 2, 2, 2, 2]

/-- Row Cx of the length table: 30_encoding.md R82 for the implemented opcodes, R87 for the others. -/
def oplenRowC : List Nat := [1, 1, 1, 1, 1, 1, 1, 1, 0, 1, 0, 1, 2, 2, 2, 2]

/-- Row Dx of the length table: 30_encoding.md R82 for the implemented opcodes, R87 for the others. -/
def oplenRowD : List Nat := [1, 1, 0, 1, 1, 1, 1, 1, 0, 2, 0, 2, 2, 2, 2, 2]

/-- Row Ex of the length table: 30_encoding.md R82 for the implemented opcodes, R87 for the others. -/
def oplenRowE : List Nat := [1, 1, 1, 1, 1, 1, 1, 1, 0, 1, 0, 1, 2, 2, 2, 2]

/-- Row Fx of the length table: 30_encoding.md R82 for the implemented opcodes, R87 for the others. -/
def oplenRowF : List Nat := [1, 1, 0, 1, 1, 1, 1, 1, 0, 2, 0, 2, 2, 2, 2, 2]

/-- The length table of 30_encoding.md R82, in opcode order. -/
def oplenTable : List Nat :=
  oplenRow0 ++ oplenRow1 ++ oplenRow2 ++ oplenRow3 ++ oplenRow4 ++ oplenRow5 ++ oplenRow6 ++ oplenRow7 ++
    oplenRow8 ++ oplenRow9 ++ oplenRowA ++ oplenRowB ++ oplenRowC ++ oplenRowD ++ oplenRowE ++ oplenRowF

/-- OPLEN(op), the operand-byte count of an opcode byte (30_encoding.md R82). -/
def oplen (op : Byte) : Nat := oplenTable.getD op.toNat 0

/-! ## Decoding -/

/-- The instruction of an opcode byte and its operand bytes, an absent one read as 0x00 (00_scope.md R4); none for an
unimplemented opcode (30_encoding.md R86). -/
def decodeOp (op b1 b2 : Byte) : Option Instr :=
  match dispatchEntry op with
  | .sentinel => none
  | .op0 i => some i
  | .op1 f => some (f b1)
  | .op2 f => some (f (hilo b2 b1))

/-- Why a run of bytes does not decode. -/
inductive DecodeError where
  /-- there is no opcode byte -/
  | noBytes
  /-- fewer operand bytes are there than the length table asks for -/
  | missingOperand (op : Byte)
  /-- the opcode is one of the 105 of 30_encoding.md R86 -/
  | unimplemented (op : Byte)
  deriving DecidableEq, Repr

/-- Decode the instruction at the head of a run of bytes and answer it with the bytes after it. The length is checked
before the opcode, as in the step (60_exceptions.md R242). -/
def decode : List Byte → Except DecodeError (Instr × List Byte)
  | [] => .error .noBytes
  | op :: rest =>
    if rest.length < oplen op then .error (.missingOperand op)
    else
      match decodeOp op (rest.getD 0 0x00) (rest.getD 1 0x00) with
      | some i => .ok (i, rest.drop (oplen op))
      | none => .error (.unimplemented op)

/-- Byte `k` of an instruction given as a number whose bit 0 is the least significant bit of the first byte. -/
def tableByte (nbits w k : Nat) : Byte := BitVec.ofNat 8 (w % 2 ^ nbits / 2 ^ (8 * k))

/-- The bytes of an instruction of the opcode table, zeros above `nbits`, up to the longest instruction. -/
def tableBytes (nbits w : Nat) : List Byte := [tableByte nbits w 0, tableByte nbits w 1, tableByte nbits w 2]

/-- The instruction the decoder reads from a row of the opcode table. -/
def decodeTableWord (nbits w : Nat) : Option Instr :=
  match decode (tableBytes nbits w) with
  | .ok (i, _) => some i
  | .error _ => none

/-! ## Encoding -/

/-- The opcode byte of an instruction (the `match` column of `opcode_table.json`). -/
def Instr.opcode : Instr → Byte
  | .brk _ => 0x00
  | .oraIndx _ => 0x01
  | .oraZp _ => 0x05
  | .aslZp _ => 0x06
  | .php => 0x08
  | .oraImm _ => 0x09
  | .aslAcc => 0x0A
  | .oraAbs _ => 0x0D
  | .aslAbs _ => 0x0E
  | .bpl _ => 0x10
  | .oraIndy _ => 0x11
  | .oraZpx _ => 0x15
  | .aslZpx _ => 0x16
  | .clc => 0x18
  | .oraAbsy _ => 0x19
  | .oraAbsx _ => 0x1D
  | .aslAbsx _ => 0x1E
  | .jsr _ => 0x20
  | .andIndx _ => 0x21
  | .bitZp _ => 0x24
  | .andZp _ => 0x25
  | .rolZp _ => 0x26
  | .plp => 0x28
  | .andImm _ => 0x29
  | .rolAcc => 0x2A
  | .bitAbs _ => 0x2C
  | .andAbs _ => 0x2D
  | .rolAbs _ => 0x2E
  | .bmi _ => 0x30
  | .andIndy _ => 0x31
  | .andZpx _ => 0x35
  | .rolZpx _ => 0x36
  | .sec => 0x38
  | .andAbsy _ => 0x39
  | .andAbsx _ => 0x3D
  | .rolAbsx _ => 0x3E
  | .rti => 0x40
  | .eorIndx _ => 0x41
  | .eorZp _ => 0x45
  | .lsrZp _ => 0x46
  | .pha => 0x48
  | .eorImm _ => 0x49
  | .lsrAcc => 0x4A
  | .jmpAbs _ => 0x4C
  | .eorAbs _ => 0x4D
  | .lsrAbs _ => 0x4E
  | .bvc _ => 0x50
  | .eorIndy _ => 0x51
  | .eorZpx _ => 0x55
  | .lsrZpx _ => 0x56
  | .cli => 0x58
  | .eorAbsy _ => 0x59
  | .eorAbsx _ => 0x5D
  | .lsrAbsx _ => 0x5E
  | .rts => 0x60
  | .adcIndx _ => 0x61
  | .adcZp _ => 0x65
  | .rorZp _ => 0x66
  | .pla => 0x68
  | .adcImm _ => 0x69
  | .rorAcc => 0x6A
  | .jmpInd _ => 0x6C
  | .adcAbs _ => 0x6D
  | .rorAbs _ => 0x6E
  | .bvs _ => 0x70
  | .adcIndy _ => 0x71
  | .adcZpx _ => 0x75
  | .rorZpx _ => 0x76
  | .sei => 0x78
  | .adcAbsy _ => 0x79
  | .adcAbsx _ => 0x7D
  | .rorAbsx _ => 0x7E
  | .staIndx _ => 0x81
  | .styZp _ => 0x84
  | .staZp _ => 0x85
  | .stxZp _ => 0x86
  | .dey => 0x88
  | .txa => 0x8A
  | .styAbs _ => 0x8C
  | .staAbs _ => 0x8D
  | .stxAbs _ => 0x8E
  | .bcc _ => 0x90
  | .staIndy _ => 0x91
  | .styZpx _ => 0x94
  | .staZpx _ => 0x95
  | .stxZpy _ => 0x96
  | .tya => 0x98
  | .staAbsy _ => 0x99
  | .txs => 0x9A
  | .staAbsx _ => 0x9D
  | .ldyImm _ => 0xA0
  | .ldaIndx _ => 0xA1
  | .ldxImm _ => 0xA2
  | .ldyZp _ => 0xA4
  | .ldaZp _ => 0xA5
  | .ldxZp _ => 0xA6
  | .tay => 0xA8
  | .ldaImm _ => 0xA9
  | .tax => 0xAA
  | .ldyAbs _ => 0xAC
  | .ldaAbs _ => 0xAD
  | .ldxAbs _ => 0xAE
  | .bcs _ => 0xB0
  | .ldaIndy _ => 0xB1
  | .ldyZpx _ => 0xB4
  | .ldaZpx _ => 0xB5
  | .ldxZpy _ => 0xB6
  | .clv => 0xB8
  | .ldaAbsy _ => 0xB9
  | .tsx => 0xBA
  | .ldyAbsx _ => 0xBC
  | .ldaAbsx _ => 0xBD
  | .ldxAbsy _ => 0xBE
  | .cpyImm _ => 0xC0
  | .cmpIndx _ => 0xC1
  | .cpyZp _ => 0xC4
  | .cmpZp _ => 0xC5
  | .decZp _ => 0xC6
  | .iny => 0xC8
  | .cmpImm _ => 0xC9
  | .dex => 0xCA
  | .cpyAbs _ => 0xCC
  | .cmpAbs _ => 0xCD
  | .decAbs _ => 0xCE
  | .bne _ => 0xD0
  | .cmpIndy _ => 0xD1
  | .cmpZpx _ => 0xD5
  | .decZpx _ => 0xD6
  | .cld => 0xD8
  | .cmpAbsy _ => 0xD9
  | .cmpAbsx _ => 0xDD
  | .decAbsx _ => 0xDE
  | .cpxImm _ => 0xE0
  | .sbcIndx _ => 0xE1
  | .cpxZp _ => 0xE4
  | .sbcZp _ => 0xE5
  | .incZp _ => 0xE6
  | .inx => 0xE8
  | .sbcImm _ => 0xE9
  | .nop => 0xEA
  | .cpxAbs _ => 0xEC
  | .sbcAbs _ => 0xED
  | .incAbs _ => 0xEE
  | .beq _ => 0xF0
  | .sbcIndy _ => 0xF1
  | .sbcZpx _ => 0xF5
  | .incZpx _ => 0xF6
  | .sed => 0xF8
  | .sbcAbsy _ => 0xF9
  | .sbcAbsx _ => 0xFD
  | .incAbsx _ => 0xFE

/-- The operand bytes of an instruction, in memory order: an address low byte first (30_encoding.md R83). -/
def Instr.operands : Instr → List Byte
  | .brk pad => [pad]
  | .oraIndx b => [b]
  | .oraZp b => [b]
  | .aslZp b => [b]
  | .php => []
  | .oraImm v => [v]
  | .aslAcc => []
  | .oraAbs w => [loByte w, hiByte w]
  | .aslAbs w => [loByte w, hiByte w]
  | .bpl off => [off]
  | .oraIndy b => [b]
  | .oraZpx b => [b]
  | .aslZpx b => [b]
  | .clc => []
  | .oraAbsy w => [loByte w, hiByte w]
  | .oraAbsx w => [loByte w, hiByte w]
  | .aslAbsx w => [loByte w, hiByte w]
  | .jsr w => [loByte w, hiByte w]
  | .andIndx b => [b]
  | .bitZp b => [b]
  | .andZp b => [b]
  | .rolZp b => [b]
  | .plp => []
  | .andImm v => [v]
  | .rolAcc => []
  | .bitAbs w => [loByte w, hiByte w]
  | .andAbs w => [loByte w, hiByte w]
  | .rolAbs w => [loByte w, hiByte w]
  | .bmi off => [off]
  | .andIndy b => [b]
  | .andZpx b => [b]
  | .rolZpx b => [b]
  | .sec => []
  | .andAbsy w => [loByte w, hiByte w]
  | .andAbsx w => [loByte w, hiByte w]
  | .rolAbsx w => [loByte w, hiByte w]
  | .rti => []
  | .eorIndx b => [b]
  | .eorZp b => [b]
  | .lsrZp b => [b]
  | .pha => []
  | .eorImm v => [v]
  | .lsrAcc => []
  | .jmpAbs w => [loByte w, hiByte w]
  | .eorAbs w => [loByte w, hiByte w]
  | .lsrAbs w => [loByte w, hiByte w]
  | .bvc off => [off]
  | .eorIndy b => [b]
  | .eorZpx b => [b]
  | .lsrZpx b => [b]
  | .cli => []
  | .eorAbsy w => [loByte w, hiByte w]
  | .eorAbsx w => [loByte w, hiByte w]
  | .lsrAbsx w => [loByte w, hiByte w]
  | .rts => []
  | .adcIndx b => [b]
  | .adcZp b => [b]
  | .rorZp b => [b]
  | .pla => []
  | .adcImm v => [v]
  | .rorAcc => []
  | .jmpInd w => [loByte w, hiByte w]
  | .adcAbs w => [loByte w, hiByte w]
  | .rorAbs w => [loByte w, hiByte w]
  | .bvs off => [off]
  | .adcIndy b => [b]
  | .adcZpx b => [b]
  | .rorZpx b => [b]
  | .sei => []
  | .adcAbsy w => [loByte w, hiByte w]
  | .adcAbsx w => [loByte w, hiByte w]
  | .rorAbsx w => [loByte w, hiByte w]
  | .staIndx b => [b]
  | .styZp b => [b]
  | .staZp b => [b]
  | .stxZp b => [b]
  | .dey => []
  | .txa => []
  | .styAbs w => [loByte w, hiByte w]
  | .staAbs w => [loByte w, hiByte w]
  | .stxAbs w => [loByte w, hiByte w]
  | .bcc off => [off]
  | .staIndy b => [b]
  | .styZpx b => [b]
  | .staZpx b => [b]
  | .stxZpy b => [b]
  | .tya => []
  | .staAbsy w => [loByte w, hiByte w]
  | .txs => []
  | .staAbsx w => [loByte w, hiByte w]
  | .ldyImm v => [v]
  | .ldaIndx b => [b]
  | .ldxImm v => [v]
  | .ldyZp b => [b]
  | .ldaZp b => [b]
  | .ldxZp b => [b]
  | .tay => []
  | .ldaImm v => [v]
  | .tax => []
  | .ldyAbs w => [loByte w, hiByte w]
  | .ldaAbs w => [loByte w, hiByte w]
  | .ldxAbs w => [loByte w, hiByte w]
  | .bcs off => [off]
  | .ldaIndy b => [b]
  | .ldyZpx b => [b]
  | .ldaZpx b => [b]
  | .ldxZpy b => [b]
  | .clv => []
  | .ldaAbsy w => [loByte w, hiByte w]
  | .tsx => []
  | .ldyAbsx w => [loByte w, hiByte w]
  | .ldaAbsx w => [loByte w, hiByte w]
  | .ldxAbsy w => [loByte w, hiByte w]
  | .cpyImm v => [v]
  | .cmpIndx b => [b]
  | .cpyZp b => [b]
  | .cmpZp b => [b]
  | .decZp b => [b]
  | .iny => []
  | .cmpImm v => [v]
  | .dex => []
  | .cpyAbs w => [loByte w, hiByte w]
  | .cmpAbs w => [loByte w, hiByte w]
  | .decAbs w => [loByte w, hiByte w]
  | .bne off => [off]
  | .cmpIndy b => [b]
  | .cmpZpx b => [b]
  | .decZpx b => [b]
  | .cld => []
  | .cmpAbsy w => [loByte w, hiByte w]
  | .cmpAbsx w => [loByte w, hiByte w]
  | .decAbsx w => [loByte w, hiByte w]
  | .cpxImm v => [v]
  | .sbcIndx b => [b]
  | .cpxZp b => [b]
  | .sbcZp b => [b]
  | .incZp b => [b]
  | .inx => []
  | .sbcImm v => [v]
  | .nop => []
  | .cpxAbs w => [loByte w, hiByte w]
  | .sbcAbs w => [loByte w, hiByte w]
  | .incAbs w => [loByte w, hiByte w]
  | .beq off => [off]
  | .sbcIndy b => [b]
  | .sbcZpx b => [b]
  | .incZpx b => [b]
  | .sed => []
  | .sbcAbsy w => [loByte w, hiByte w]
  | .sbcAbsx w => [loByte w, hiByte w]
  | .incAbsx w => [loByte w, hiByte w]

/-- The bytes of an instruction at ascending addresses (30_encoding.md R80). -/
def encode (i : Instr) : List Byte := i.opcode :: i.operands

/-! ## Assembling and printing one statement -/

/-- The operand bytes of a statement in a mode, at `pc`. The branch offset is `target - (pc + 2)` (30_encoding.md R89). -/
def AsmLine.operandBytes (l : AsmLine) (pc : Addr) : Mode → List Byte
  | .imp | .acc => []
  | .imm | .zp | .zpx | .zpy | .indx | .indy => [BitVec.ofNat 8 l.operand.value]
  | .rel => [loByte (BitVec.ofNat 16 l.operand.value - (pc + 2))]
  | .abs | .absx | .absy | .ind =>
    [loByte (BitVec.ofNat 16 l.operand.value), hiByte (BitVec.ofNat 16 l.operand.value)]

/-- The bytes of a statement at `pc`, if the assembler accepts it (30_encoding.md R89). BRK's padding byte is written as
a statement of its own (95_test_vectors.md P3). -/
def AsmLine.assemble (l : AsmLine) (pc : Addr) : Option (List Byte) :=
  if l.wellFormed pc then
    match l.mode? with
    | some m => (l.mnemonic.opcode? m).map (fun op => op :: l.operandBytes pc m)
    | none => none
  else none

/-- The mnemonic as it is written. -/
def Mnemonic.name : Mnemonic → String
  | .adc => "ADC"
  | .and => "AND"
  | .asl => "ASL"
  | .bcc => "BCC"
  | .bcs => "BCS"
  | .beq => "BEQ"
  | .bit => "BIT"
  | .bmi => "BMI"
  | .bne => "BNE"
  | .bpl => "BPL"
  | .brk => "BRK"
  | .bvc => "BVC"
  | .bvs => "BVS"
  | .clc => "CLC"
  | .cld => "CLD"
  | .cli => "CLI"
  | .clv => "CLV"
  | .cmp => "CMP"
  | .cpx => "CPX"
  | .cpy => "CPY"
  | .dec => "DEC"
  | .dex => "DEX"
  | .dey => "DEY"
  | .eor => "EOR"
  | .inc => "INC"
  | .inx => "INX"
  | .iny => "INY"
  | .jmp => "JMP"
  | .jsr => "JSR"
  | .lda => "LDA"
  | .ldx => "LDX"
  | .ldy => "LDY"
  | .lsr => "LSR"
  | .nop => "NOP"
  | .ora => "ORA"
  | .pha => "PHA"
  | .php => "PHP"
  | .pla => "PLA"
  | .plp => "PLP"
  | .rol => "ROL"
  | .ror => "ROR"
  | .rti => "RTI"
  | .rts => "RTS"
  | .sbc => "SBC"
  | .sec => "SEC"
  | .sed => "SED"
  | .sei => "SEI"
  | .sta => "STA"
  | .stx => "STX"
  | .sty => "STY"
  | .tax => "TAX"
  | .tay => "TAY"
  | .tsx => "TSX"
  | .txa => "TXA"
  | .txs => "TXS"
  | .tya => "TYA"

/-- One hexadecimal digit. -/
def hexDigit (n : Nat) : String :=
  ["0", "1", "2", "3", "4", "5", "6", "7", "8", "9", "A", "B", "C", "D", "E", "F"].getD (n % 16) ""

/-- A byte as two hexadecimal digits. -/
def hex2 (b : Byte) : String := hexDigit (b.toNat / 16) ++ hexDigit b.toNat

/-- An address as four hexadecimal digits. -/
def hex4 (w : Addr) : String := hex2 (hiByte w) ++ hex2 (loByte w)

/-- The operand of an instruction in the syntax column of 30_encoding.md R81; a branch shows its target. -/
def operandText (pc : Addr) : Mode → List Byte → String
  | .acc, _ => " A"
  | .imm, [v] => " #$" ++ hex2 v
  | .zp, [b] => " $" ++ hex2 b
  | .zpx, [b] => " $" ++ hex2 b ++ ",X"
  | .zpy, [b] => " $" ++ hex2 b ++ ",Y"
  | .abs, [lo, hi] => " $" ++ hex4 (hilo hi lo)
  | .absx, [lo, hi] => " $" ++ hex4 (hilo hi lo) ++ ",X"
  | .absy, [lo, hi] => " $" ++ hex4 (hilo hi lo) ++ ",Y"
  | .ind, [lo, hi] => " ($" ++ hex4 (hilo hi lo) ++ ")"
  | .indx, [b] => " ($" ++ hex2 b ++ ",X)"
  | .indy, [b] => " ($" ++ hex2 b ++ "),Y"
  | .rel, [off] => " $" ++ hex4 (pc + 2 + sext16 off)
  | _, _ => ""

/-- An instruction at `pc` as assembly text (30_encoding.md R89). -/
def Instr.text (i : Instr) (pc : Addr) : String := i.mnemonic.name ++ operandText pc i.mode i.operands

end Sys2Proof
end

