-- ==== Sys2Proof/Config.lean ====
section
/-! DEFINITION. What a machine instance fixes before construction: the parameter record of 00_scope.md section 4
(rule R3), with the spec's defaults, and what a byte of memory that nothing has written reads as.

The record holds every parameter of that table. Three of them the spec leaves OPEN, without a default: FRAME_BUDGET,
INITIAL_MEMORY and INITIAL_AXY. END_PC is no parameter of the table but a launch's (60_exceptions.md R261), an argument of
the operation that uses it (log 12). -/

namespace Sys2Proof

/-- STACK_BASE, the page the 8-bit stack pointer indexes (D3). -/
inductive StackBase where
  /-- 0x0100, the default -/
  | page1
  /-- 0x0000, the reference's raw index -/
  | page0
  deriving DecidableEq, Repr

/-- SET_ONLY_FLAGS, a subset of N, V, Z and C: a flag in it is only ever asserted by `setFlag` (D5). -/
structure SetOnly where
  n : Bool
  v : Bool
  z : Bool
  c : Bool
  deriving DecidableEq, Repr

/-- CMP_N_SOURCE, the bit of the 16-bit comparison difference that gives N (D7). -/
inductive CmpN where
  | bit7
  | sign16
  deriving DecidableEq, Repr

/-- DECIMAL_POLICY, what ADC and SBC do when D = 1 (D10). -/
inductive DecimalPolicy where
  | binary
  | fault
  deriving DecidableEq, Repr

/-- CART_CPU_WRITE, what an instruction's write to the cartridge window does (D12). -/
inductive CartWrite where
  | store
  | ignore
  deriving DecidableEq, Repr

/-- UNIMPL_POLICY, for UnimplementedOpcode errors (D20, 60_exceptions.md R243). -/
inductive UnimplPolicy where
  | hardStop
  | skip
  deriving DecidableEq, Repr

/-- BUS_ERROR_POLICY, for bus errors raised while an instruction executes (D19, 60_exceptions.md R244). -/
inductive BusErrorPolicy where
  | halt
  | skip
  deriving DecidableEq, Repr

/-- The parameter record of 00_scope.md section 4. One record is fixed for a machine instance before construction, and no
instruction, reset or host action changes it (R3). -/
structure Params where
  /-- STACK_BASE -/
  stackBase : StackBase
  /-- SET_ONLY_FLAGS -/
  setOnly : SetOnly
  /-- LOAD_N_QUIRK -/
  loadNQuirk : Bool
  /-- CMP_N_SOURCE -/
  cmpN : CmpN
  /-- CMP_CARRY_REVERSED -/
  cmpCarryReversed : Bool
  /-- INDX_POST_INDEX -/
  indxPostIndex : Bool
  /-- JMP_IND_PAGE_WRAP -/
  jmpIndPageWrap : Bool
  /-- DECIMAL_POLICY -/
  decimal : DecimalPolicy
  /-- PPU_REG_MIRROR -/
  ppuRegMirror : Bool
  /-- CART_CPU_WRITE -/
  cartWrite : CartWrite
  /-- CART_LOAD_BASE -/
  cartLoadBase : Addr
  /-- UNIMPL_POLICY -/
  unimpl : UnimplPolicy
  /-- BUS_ERROR_POLICY -/
  busError : BusErrorPolicy
  /-- NOMINAL_CYCLES, indexed by the opcode byte -/
  nominalCycles : Vector Nat 256
  /-- FRAME_BUDGET, the cycles of a frame: a positive rational (OPEN, D23) -/
  frameBudget : { q : Rat // 0 < q }
  /-- INITIAL_MEMORY, the bytes at construction as (cell, byte) pairs (OPEN, D24; log 9) -/
  initialMemory : List Host.Cell
  /-- INITIAL_AXY, the accumulator at construction (OPEN, D24) -/
  initialA : Byte
  /-- INITIAL_AXY, the index register X at construction (OPEN, D24) -/
  initialX : Byte
  /-- INITIAL_AXY, the index register Y at construction (OPEN, D24) -/
  initialY : Byte
  deriving DecidableEq, Repr

/-- Row 0x of the table of 70_reset_and_hazards.md R290. -/
def cyclesRow0 : List Nat := [7, 6, 2, 2, 2, 3, 5, 2, 3, 2, 2, 2, 2, 4, 6, 2]
/-- Row 1x of the table of 70_reset_and_hazards.md R290. -/
def cyclesRow1 : List Nat := [2, 5, 2, 2, 2, 4, 6, 2, 2, 4, 2, 2, 2, 4, 7, 2]
/-- Row 2x of the table of 70_reset_and_hazards.md R290. -/
def cyclesRow2 : List Nat := [6, 6, 2, 2, 3, 3, 5, 2, 4, 2, 2, 2, 4, 4, 6, 2]
/-- Row 3x of the table of 70_reset_and_hazards.md R290. -/
def cyclesRow3 : List Nat := [2, 5, 2, 2, 2, 4, 6, 2, 2, 4, 2, 2, 2, 4, 7, 2]
/-- Row 4x of the table of 70_reset_and_hazards.md R290. -/
def cyclesRow4 : List Nat := [6, 6, 2, 2, 2, 3, 5, 2, 3, 2, 2, 2, 3, 4, 6, 2]
/-- Row 5x of the table of 70_reset_and_hazards.md R290. -/
def cyclesRow5 : List Nat := [2, 5, 2, 2, 2, 4, 6, 2, 2, 4, 2, 2, 2, 4, 7, 2]
/-- Row 6x of the table of 70_reset_and_hazards.md R290. -/
def cyclesRow6 : List Nat := [6, 6, 2, 2, 2, 3, 5, 2, 4, 2, 2, 2, 5, 4, 6, 2]
/-- Row 7x of the table of 70_reset_and_hazards.md R290. -/
def cyclesRow7 : List Nat := [2, 5, 2, 2, 2, 4, 6, 2, 2, 4, 2, 2, 2, 4, 7, 2]
/-- Row 8x of the table of 70_reset_and_hazards.md R290. -/
def cyclesRow8 : List Nat := [2, 6, 2, 2, 3, 3, 3, 2, 2, 2, 2, 2, 4, 4, 4, 2]
/-- Row 9x of the table of 70_reset_and_hazards.md R290. -/
def cyclesRow9 : List Nat := [2, 6, 2, 2, 4, 4, 4, 2, 2, 5, 2, 2, 2, 5, 2, 2]
/-- Row Ax of the table of 70_reset_and_hazards.md R290. -/
def cyclesRowA : List Nat := [2, 6, 2, 2, 3, 3, 3, 2, 2, 2, 2, 2, 4, 4, 4, 2]
/-- Row Bx of the table of 70_reset_and_hazards.md R290. -/
def cyclesRowB : List Nat := [2, 5, 2, 2, 4, 4, 4, 2, 2, 4, 2, 2, 4, 4, 4, 2]
/-- Row Cx of the table of 70_reset_and_hazards.md R290. -/
def cyclesRowC : List Nat := [2, 6, 2, 2, 3, 3, 5, 2, 2, 2, 2, 2, 4, 4, 6, 2]
/-- Row Dx of the table of 70_reset_and_hazards.md R290. -/
def cyclesRowD : List Nat := [2, 5, 2, 2, 2, 4, 6, 2, 2, 4, 2, 2, 2, 4, 7, 2]
/-- Row Ex of the table of 70_reset_and_hazards.md R290. -/
def cyclesRowE : List Nat := [2, 6, 2, 2, 3, 3, 5, 2, 2, 2, 2, 2, 4, 4, 6, 2]
/-- Row Fx of the table of 70_reset_and_hazards.md R290. -/
def cyclesRowF : List Nat := [2, 5, 2, 2, 2, 4, 6, 2, 2, 4, 2, 2, 2, 4, 7, 2]

/-- The 256 nominal costs of 70_reset_and_hazards.md R290, in opcode order. -/
def cyclesList : List Nat :=
  cyclesRow0 ++ cyclesRow1 ++ cyclesRow2 ++ cyclesRow3 ++ cyclesRow4 ++ cyclesRow5 ++ cyclesRow6 ++ cyclesRow7 ++
    cyclesRow8 ++ cyclesRow9 ++ cyclesRowA ++ cyclesRowB ++ cyclesRowC ++ cyclesRowD ++ cyclesRowE ++ cyclesRowF

/-- The default of NOMINAL_CYCLES (70_reset_and_hazards.md R290). -/
def Params.defaultCycles : Vector Nat 256 := ⟨cyclesList.toArray, by decide +kernel⟩

/-- Every parameter at its default (00_scope.md section 4). The three OPEN ones have none: the values here are those of
the launch `State.reset` stands for, DESIGN CHOICE, unsafe (FRAME_BUDGET log 21, INITIAL_MEMORY log 2, INITIAL_AXY
log 3). -/
def Params.defaults : Params where
  stackBase := .page1
  setOnly := ⟨false, false, false, false⟩
  loadNQuirk := false
  cmpN := .bit7
  cmpCarryReversed := false
  indxPostIndex := false
  jmpIndPageWrap := true
  decimal := .binary
  ppuRegMirror := false
  cartWrite := .store
  cartLoadBase := 0xC000
  unimpl := .hardStop
  busError := .halt
  nominalCycles := Params.defaultCycles
  frameBudget := ⟨{ num := 59561, den := 2, den_nz := by decide, reduced := by decide }, by decide⟩
  initialMemory := []
  initialA := 0x00
  initialX := 0x00
  initialY := 0x00

/-- What an unlisted address of memory reads as. DESIGN CHOICE (log 2), unsafe: the spec leaves INITIAL_MEMORY open
(20_memory.md R61). A state that lists other bytes stands for any other initial memory. -/
def Params.unlistedByte : Byte := 0x00

end Sys2Proof
end

