-- ==== Sys2Proof/Machine/State.lean ====
section
/-! DEFINITION. The state of one machine (10_state.md), as plain data: the register file, the flags, the run state, the
cycle counter, the error records, the bytes of the four regions, the scheduler's credit, and the parameter record the
machine was constructed with. The reasons a step is not taken. The state right after reset. -/

namespace Sys2Proof.Machine

/-- The error kinds of 60_exceptions.md R240. -/
inductive ErrorKind where
  | unmappedAddress
  | outOfBoundsAccess
  | unimplementedOpcode
  deriving DecidableEq, Repr

/-- The spec's numeric code of a kind (60_exceptions.md R240). -/
def ErrorKind.code : ErrorKind → Nat
  | .unmappedAddress => 1
  | .outOfBoundsAccess => 2
  | .unimplementedOpcode => 3

/-- A raised error `K(info)`: the kind with the information R240 gives it. -/
inductive Raise where
  /-- the first unmapped address touched -/
  | unmappedAddress (addr : Addr)
  /-- the start and the size of the rejected access -/
  | outOfBoundsAccess (addr : Addr) (n : Nat)
  /-- the opcode byte and its address -/
  | unimplementedOpcode (op : Byte) (pc : Addr)
  deriving DecidableEq, Repr

/-- The kind of a raised error. -/
def Raise.kind : Raise → ErrorKind
  | .unmappedAddress _ => .unmappedAddress
  | .outOfBoundsAccess _ _ => .outOfBoundsAccess
  | .unimplementedOpcode _ _ => .unimplementedOpcode

/-- An error record `(kind, pc, op, info)` (10_state.md R25): `raised` is the kind with its information, `pc` the
faulting instruction's address, `op` its opcode byte, absent when the opcode fetch itself failed (60_exceptions.md R241). -/
structure FaultRecord where
  raised : Raise
  pc : Addr
  op : Option Byte
  deriving DecidableEq, Repr

/-- The kind of a record. -/
def FaultRecord.kind (r : FaultRecord) : ErrorKind := r.raised.kind

/-- The machine state of 10_state.md R23. -/
inductive RunState where
  | reset
  | running
  | halted (kind : ErrorKind)
  deriving DecidableEq, Repr

/-- The eight independent flags of 10_state.md R15, from bit 7 down to bit 0. -/
structure Flags where
  /-- Negative -/
  n : Bool
  /-- Overflow -/
  v : Bool
  /-- Reserved -/
  r : Bool
  /-- Break -/
  b : Bool
  /-- Decimal -/
  d : Bool
  /-- InterruptDisable -/
  i : Bool
  /-- Zero -/
  z : Bool
  /-- Carry -/
  c : Bool
  deriving DecidableEq, Repr

/-- The bytes of the four regions (20_memory.md R40): a list of (cell, byte), where the cell of a region's index is the
first bus address that reaches it (log 9). A cell that is not listed reads as `Params.unlistedByte` (log 2). -/
abbrev Memory := List Host.Cell

/-- The cells that exist: WRAM 0x0000-0x07FF, PPUREG 0x2000-0x2007, APUIO 0x4000-0x4017, CART 0x4020-0xFFFF
(20_memory.md R40). -/
def Memory.isCell (k : Nat) : Bool :=
  k < 0x0800 || (0x2000 ≤ k && k < 0x2008) || (0x4000 ≤ k && k < 0x4018) || (0x4020 ≤ k && k < 0x10000)

/-- The cells of a list rise strictly. -/
def Memory.rising : Memory → Bool
  | [] => true
  | c :: m => m.all (fun d => decide (c.1 < d.1)) && Memory.rising m

/-- The canonical form: cells that exist, strictly rising, none listed with the value an unlisted one reads as. -/
def Memory.wf (m : Memory) : Bool :=
  Memory.rising m && m.all (fun c => Memory.isCell c.1 && c.2 != Params.unlistedByte)

/-- The state of one machine (10_state.md). -/
structure State where
  /-- the accumulator A (R10) -/
  a : Byte
  /-- the index register X (R11) -/
  x : Byte
  /-- the index register Y (R12) -/
  y : Byte
  /-- the stack pointer SP (R13) -/
  sp : Byte
  /-- the program counter PC (R14) -/
  pc : Addr
  /-- the flags P (R15) -/
  p : Flags
  /-- the machine state (R23) -/
  run : RunState
  /-- the nominal cycle counter (R24) -/
  cycles : Nat
  /-- the error records, oldest first (R25) -/
  faults : List FaultRecord
  /-- the bytes of the four regions (20_memory.md R40) -/
  mem : Memory
  /-- the frame scheduler's credit (60_exceptions.md R255) -/
  credit : Rat
  /-- the parameter record this machine was constructed with (00_scope.md R3, log 1) -/
  params : Params
  deriving DecidableEq, Repr

/-- Why `step` takes no step. Both are safe: the spec takes no step there either (log 6). -/
inductive Fault where
  /-- `step`, when `run = Halted(kind)`: only a reset leaves that state (60_exceptions.md R247). Safe. -/
  | halted (kind : ErrorKind)
  /-- `step`, when `run = Reset`: no step is taken before the first reset (70_reset_and_hazards.md R272). Safe. -/
  | inReset
  deriving DecidableEq, Repr

/-- Why an instruction has no meaning. -/
inductive Refusal where
  /-- an arm of `exec` whose instruction has no meaning yet; no arm uses it. Safe. -/
  | notModelled (mnemonic : String)
  deriving DecidableEq, Repr

/-- The flags reset leaves: InterruptDisable only (70_reset_and_hazards.md R270). -/
def Flags.reset : Flags := ⟨false, false, false, false, false, true, false, false⟩

/-- The machine right after reset (70_reset_and_hazards.md R270), constructed with `Params.defaults`: INITIAL_AXY is 0
(DESIGN CHOICE, log 3), no byte of memory is listed (log 2), so that the read of the reset vector gives 0x0000 (log 4),
FRAME_BUDGET is log 21's, and no error is recorded (log 5). `reset_is_hostReset` proves that this is the state
`hostReset` leaves. -/
def State.reset : State where
  a := 0x00
  x := 0x00
  y := 0x00
  sp := 0xFF
  pc := 0x0000
  p := Flags.reset
  run := .running
  cycles := 0
  faults := []
  mem := []
  credit := 0
  params := Params.defaults

/-! ## Updates -/

/-- `A <- v` -/
def State.setA (s : State) (v : Byte) : State := { s with a := v }
/-- `X <- v` -/
def State.setX (s : State) (v : Byte) : State := { s with x := v }
/-- `Y <- v` -/
def State.setY (s : State) (v : Byte) : State := { s with y := v }
/-- `SP <- v` -/
def State.setSp (s : State) (v : Byte) : State := { s with sp := v }
/-- `pc <- v` -/
def State.setPc (s : State) (v : Addr) : State := { s with pc := v }
/-- the flags -/
def State.setP (s : State) (v : Flags) : State := { s with p := v }
/-- `run <- v` -/
def State.setRun (s : State) (v : RunState) : State := { s with run := v }
/-- `cycles <- v` -/
def State.setCycles (s : State) (v : Nat) : State := { s with cycles := v }
/-- the error records -/
def State.setFaults (s : State) (v : List FaultRecord) : State := { s with faults := v }
/-- the memory -/
def State.setMem (s : State) (v : Memory) : State := { s with mem := v }
/-- `credit <- v` -/
def State.setCredit (s : State) (v : Rat) : State := { s with credit := v }

end Sys2Proof.Machine
end

