-- ==== Sys2Proof/Machine/Flags.lean ====
section
/-! DEFINITION. The status register: the packed byte and its two users (10_state.md R16), the two setters (R18, R19),
and every flag computation an instruction uses (R20, 43_alu.md R170 and R172). -/

namespace Sys2Proof.Machine

/-- The flags by name (10_state.md R15). -/
inductive Flag where
  | n
  | v
  | r
  | b
  | d
  | i
  | z
  | c
  deriving DecidableEq, Repr

/-- `P.f` -/
def Flags.get (p : Flags) : Flag → Bool
  | .n => p.n
  | .v => p.v
  | .r => p.r
  | .b => p.b
  | .d => p.d
  | .i => p.i
  | .z => p.z
  | .c => p.c

/-- `P.f <- x` -/
def Flags.put (p : Flags) (f : Flag) (x : Bool) : Flags :=
  match f with
  | .n => { p with n := x }
  | .v => { p with v := x }
  | .r => { p with r := x }
  | .b => { p with b := x }
  | .d => { p with d := x }
  | .i => { p with i := x }
  | .z => { p with z := x }
  | .c => { p with c := x }

/-- A flag is in SET_ONLY_FLAGS (00_scope.md section 4: a subset of N, V, Z and C). -/
def setOnlyHas (o : SetOnly) : Flag → Bool
  | .n => o.n
  | .v => o.v
  | .z => o.z
  | .c => o.c
  | .r | .b | .d | .i => false

/-- `setFlag(f, cond)`, the result-flag setter (10_state.md R18). -/
def setFlag (f : Flag) (cond : Bool) (s : State) : State :=
  if setOnlyHas s.params.setOnly f then
    if cond then s.setP (s.p.put f true) else s
  else s.setP (s.p.put f cond)

/-- `forceFlag(f, x)` (10_state.md R19). -/
def forceFlag (f : Flag) (x : Bool) (s : State) : State := s.setP (s.p.put f x)

/-- The bit number of a flag in the packed byte (10_state.md R15). -/
def Flag.bit : Flag → Nat
  | .n => 7
  | .v => 6
  | .r => 5
  | .b => 4
  | .d => 3
  | .i => 2
  | .z => 1
  | .c => 0

/-- A flag at its place in the packed byte. -/
def flagBit (x : Bool) (f : Flag) : Byte := (BitVec.ofBool x).setWidth 8 <<< f.bit

/-- The packed byte P (10_state.md R16). -/
def Flags.pack (p : Flags) : Byte :=
  flagBit p.n .n ||| flagBit p.v .v ||| flagBit p.r .r ||| flagBit p.b .b |||
    flagBit p.d .d ||| flagBit p.i .i ||| flagBit p.z .z ||| flagBit p.c .c

/-- The pushed copy of the flags, `P | 0x30`: bits 5 and 4 are 1 in it (10_state.md R16, R17). -/
def pushedFlags (s : State) : Byte := s.p.pack ||| 0x30

/-- `forceFlag(f, v[bit(f)])` -/
def restoreFlag (v : Byte) (f : Flag) (s : State) : State := forceFlag f (v.getLsbD f.bit) s

/-- PLP's and RTI's write of N, V, D, I, Z and C from a pulled byte; B and R are not written
(42_stack.md R163, 45_control_transfer.md R223). -/
def restoreFlags (v : Byte) (s : State) : State :=
  restoreFlag v .c (restoreFlag v .z (restoreFlag v .i (restoreFlag v .d (restoreFlag v .v (restoreFlag v .n s)))))

/-- `setNZ(v)` (10_state.md R20). -/
def setNZ (v : Byte) (s : State) : State := setFlag .n v.msb (setFlag .z (v == 0x00) s)

/-- `setNZload(v)`, of LDA, LDX and LDY only (10_state.md R20). -/
def setNZLoad (v : Byte) (s : State) : State :=
  if s.params.loadNQuirk then setFlag .n (v == 0x00) (setFlag .z (v == 0x00) s) else setNZ v s

/-- The 9-bit sum of 43_alu.md R170. -/
def sum9 (a m : Byte) (c : Bool) : BitVec 9 := a.setWidth 9 + m.setWidth 9 + (BitVec.ofBool c).setWidth 9

/-- `AddWithCarry(a, m)`, with its write of A (43_alu.md R170). -/
def addWithCarry (a m : Byte) (s : State) : State :=
  let sum := sum9 a m s.p.c
  let r : Byte := sum.setWidth 8
  let s1 := setFlag .c (sum.getLsbD 8) s
  let s2 := setFlag .v ((a ^^^ r) &&& (m ^^^ r)).msb s1
  setNZ r (s2.setA r)

/-- The 16-bit comparison difference of 43_alu.md R172. -/
def diff16 (r m : Byte) : BitVec 16 := r.setWidth 16 - m.setWidth 16

/-- `Compare(r, m)` (43_alu.md R172). -/
def compare (r m : Byte) (s : State) : State :=
  let d := diff16 r m
  let s1 := setFlag .z (d == 0) s
  let s2 :=
    match s.params.cmpN with
    | .bit7 => setFlag .n (d.getLsbD 7) s1
    | .sign16 => setFlag .n (d.slt 0) s1
  if s.params.cmpCarryReversed then setFlag .c ((0 : BitVec 16).sle (diff16 m r)) s2
  else setFlag .c ((0 : BitVec 16).sle d) s2

/-- BIT's three flags (43_alu.md R181). -/
def bitTest (a m : Byte) (s : State) : State :=
  setFlag .v (m.getLsbD 6) (setFlag .n (m.getLsbD 7) (setFlag .z (a &&& m == 0x00) s))

end Sys2Proof.Machine
end

