-- ==== Sys2Proof/Machine/Ops.lean ====
section
/-! DEFINITION. The shared operations: the address decoder and the access primitives of 20_memory.md, the stack, taking an
error (60_exceptions.md R241 to R244), the software interrupt and its return, how an instruction completes
(40_step_and_addressing.md R100 to R104), and the host's construction, loads and reset. -/

namespace Sys2Proof.Machine

/-! ## The cells of memory -/

/-- The byte of a cell. -/
def Memory.get : Memory → Nat → Byte
  | [], _ => Params.unlistedByte
  | c :: m, k => if c.1 = k then c.2 else Memory.get m k

/-- A cell put at its place in the rising order, replacing the byte that was listed for it. -/
def Memory.insert : Memory → Nat → Byte → Memory
  | [], k, v => [(k, v)]
  | c :: m, k, v =>
    if k < c.1 then (k, v) :: c :: m
    else if c.1 = k then (k, v) :: m
    else c :: Memory.insert m k v

/-- The byte of a cell written. Writing the byte an unlisted cell reads as removes the entry. -/
def Memory.put (m : Memory) (k : Nat) (v : Byte) : Memory :=
  if v = Params.unlistedByte then m.filter (fun c => decide (c.1 ≠ k)) else Memory.insert m k v

/-- The memory that reads as a list of cells, in the canonical form: a cell that does not exist is left out, and of two
entries for a cell the first counts (log 9). -/
def Memory.ofCells : List Host.Cell → Memory
  | [] => []
  | c :: cs => if Memory.isCell c.1 then Memory.put (Memory.ofCells cs) c.1 c.2 else Memory.ofCells cs

/-! ## The address decoder -/

/-- The four regions of 20_memory.md R40. -/
inductive Region where
  | wram
  | ppureg
  | apuio
  | cart
  deriving DecidableEq, Repr

/-- The number of bytes of a region (20_memory.md R40). -/
def Region.size : Region → Nat
  | .wram => 0x0800
  | .ppureg => 0x0008
  | .apuio => 0x0018
  | .cart => 0xBFE0

/-- The first bus address of a region. -/
def Region.base : Region → Nat
  | .wram => 0x0000
  | .ppureg => 0x2000
  | .apuio => 0x4000
  | .cart => 0x4020

/-- `decode(addr)`, the region and index an address reaches, none when it is unmapped (20_memory.md R41). -/
def busDecode (ppuRegMirror : Bool) (addr : Addr) : Option (Region × Nat) :=
  let n := addr.toNat
  if n ≤ 0x1FFF then some (.wram, n &&& 0x07FF)
  else if n ≤ 0x2007 then some (.ppureg, n - 0x2000)
  else if n ≤ 0x3FFF then (if ppuRegMirror then some (.ppureg, n &&& 0x0007) else none)
  else if n ≤ 0x4017 then some (.apuio, n - 0x4000)
  else if n ≤ 0x401F then none
  else some (.cart, n - 0x4020)

/-- The cell of a region's index (log 9). -/
def cellOf (r : Region × Nat) : Nat := r.1.base + r.2

/-- The region and index an address reaches on this machine. -/
def State.decodeAddr (s : State) (addr : Addr) : Option (Region × Nat) := busDecode s.params.ppuRegMirror addr

/-! ## Access primitives -/

/-- `MemRead(addr, 1)` (20_memory.md R47). -/
def memRead (s : State) (addr : Addr) : Except Raise Byte :=
  match s.decodeAddr addr with
  | some r => .ok (s.mem.get (cellOf r))
  | none => .error (.unmappedAddress addr)

/-- `MemRead(addr, 2)`: the bound first, then the low byte, then the high byte (20_memory.md R48). -/
def memRead16 (s : State) (addr : Addr) : Except Raise Addr :=
  if addr.toNat + 1 > 0xFFFF then .error (.outOfBoundsAccess addr 2)
  else do
    let lo ← memRead s addr
    let hi ← memRead s (addr + 1)
    .ok (hilo hi lo)

/-- The byte of a region's index stored, whatever the region (20_memory.md R49, R55). -/
def storeByte (s : State) (r : Region × Nat) (v : Byte) : State := s.setMem (s.mem.put (cellOf r) v)

/-- The byte of a region's index stored by an instruction, which CART_CPU_WRITE may drop (20_memory.md R49). -/
def cpuStore (s : State) (r : Region × Nat) (v : Byte) : State :=
  if r.1 = .cart ∧ s.params.cartWrite = .ignore then s else storeByte s r v

/-- `MemWrite(addr, 1, v)` (20_memory.md R49). -/
def memWrite (s : State) (addr : Addr) (v : Byte) : Except Raise State :=
  match s.decodeAddr addr with
  | some r => .ok (cpuStore s r v)
  | none => .error (.unmappedAddress addr)

/-- `MemWrite(addr, 2, v)`, a primitive of the host interface: both addresses are checked before a byte is written
(20_memory.md R50). -/
def memWrite16 (s : State) (addr : Addr) (v : Addr) : Except Raise State :=
  if addr.toNat + 1 > 0xFFFF then .error (.outOfBoundsAccess addr 2)
  else
    match s.decodeAddr addr, s.decodeAddr (addr + 1) with
    | none, _ => .error (.unmappedAddress addr)
    | some _, none => .error (.unmappedAddress (addr + 1))
    | some r0, some r1 => .ok (cpuStore (cpuStore s r0 (loByte v)) r1 (hiByte v))

/-- The lowest unmapped address among `n` addresses from `addr`. -/
def firstUnmapped (s : State) (addr : Addr) : Nat → Option Addr
  | 0 => none
  | n + 1 =>
    match s.decodeAddr addr with
    | none => some addr
    | some _ => firstUnmapped s (addr + 1) n

/-- The bytes stored at ascending addresses, through the region store and not CART_CPU_WRITE; an unmapped address is
left alone. -/
def storeBytes (s : State) (addr : Addr) : List Byte → State
  | [] => s
  | v :: vs =>
    match s.decodeAddr addr with
    | some r => storeBytes (storeByte s r v) (addr + 1) vs
    | none => storeBytes s (addr + 1) vs

/-- `BulkWrite(addr, bytes)`, the host's load: the whole range is checked before a byte is written
(20_memory.md R55). -/
def bulkWrite (s : State) (addr : Addr) (bytes : List Byte) : Except Raise State :=
  if bytes = [] then .ok s
  else if addr.toNat + bytes.length - 1 > 0xFFFF then .error (.outOfBoundsAccess addr bytes.length)
  else
    match firstUnmapped s addr bytes.length with
    | some u => .error (.unmappedAddress u)
    | none => .ok (storeBytes s addr bytes)

/-! ## The stack -/

/-- The address of STACK_BASE. -/
def stackBaseAddr : StackBase → Addr
  | .page1 => 0x0100
  | .page0 => 0x0000

/-- `STACK_ADDR(SP)` (20_memory.md R56). -/
def State.stackAddr (s : State) : Addr := stackBaseAddr s.params.stackBase + zext16 s.sp

/-- `Push(v)`: write, then decrement (20_memory.md R57). -/
def push (v : Byte) (s : State) : Except Raise State := do
  let t ← memWrite s s.stackAddr v
  .ok (t.setSp (t.sp - 1))

/-- `Pull()`: increment, then read (20_memory.md R58). -/
def pull (s : State) : Except Raise (Byte × State) := do
  let t := s.setSp (s.sp + 1)
  let v ← memRead t t.stackAddr
  .ok (v, t)

/-- A 16-bit value pushed, high byte first. -/
def push16 (w : Addr) (s : State) : Except Raise State := do
  let t ← push (hiByte w) s
  push (loByte w) t

/-- A 16-bit value pulled, low byte first. -/
def pull16 (s : State) : Except Raise (Addr × State) := do
  let (lo, t) ← pull s
  let (hi, u) ← pull t
  .ok (hilo hi lo, u)

/-! ## Errors -/

/-- RESET_VECTOR (20_memory.md R60). -/
def resetVector : Addr := 0xFFFC

/-- BRK_VECTOR (20_memory.md R60). -/
def brkVector : Addr := 0xFFFE

/-- NOMINAL_CYCLES[op] (70_reset_and_hazards.md R290). -/
def nominalCost (c : Params) (op : Byte) : Nat := c.nominalCycles[op.toNat]'op.isLt

/-- The fall-through address of the instruction at PC (40_step_and_addressing.md R101). -/
def State.fall (s : State) (op : Byte) : Addr := s.pc + 1 + BitVec.ofNat 16 (oplen op)

/-- The record every raised error appends (60_exceptions.md R241). -/
def recordError (e : Raise) (op : Option Byte) (s : State) : State := s.setFaults (s.faults ++ [⟨e, s.pc, op⟩])

/-- An error that halts: the record, and `run <- Halted(kind)` (60_exceptions.md R243, R244). -/
def haltOn (e : Raise) (op : Option Byte) (s : State) : State := (recordError e op s).setRun (.halted e.kind)

/-- An error that is skipped: the record, `PC <- fall`, and the nominal cost (60_exceptions.md R243, R244). -/
def skipOn (e : Raise) (op : Byte) (s : State) : State :=
  ((recordError e (some op) s).setPc (s.fall op)).setCycles (s.cycles + nominalCost s.params op)

/-- The policy that applies to an error of phase D or E skips it. -/
def skips (c : Params) : ErrorKind → Bool
  | .unimplementedOpcode => c.unimpl == .skip
  | .unmappedAddress | .outOfBoundsAccess => c.busError == .skip

/-- Taking an error of phase D or E in the state before the step: none of the instruction's effects, the record, and the
policy's own changes (60_exceptions.md R241 to R246). -/
def takeError (e : Raise) (op : Byte) (s : State) : State :=
  if skips s.params e.kind then skipOn e op s else haltOn e (some op) s

/-- Taking an error of phase F: it always halts (60_exceptions.md R244). -/
def takeFetchError (e : Raise) (op : Option Byte) (s : State) : State := haltOn e op s

/-- The sentinel handler of an unimplemented opcode (60_exceptions.md R242). -/
def sentinel (op : Byte) (s : State) : State := takeError (.unimplementedOpcode op s.pc) op s

/-! ## How an instruction completes -/

/-- What a step answers. -/
abbrev Result := Host.Outcome State Fault Refusal

/-- An instruction run from the state before the step. Its `Execute` body starts from that state with `pc` at the
fall-through address (`next <- fall`); when it raises nothing, what it leaves is committed and the nominal cost is added;
when it raises, the error is taken in the state before the step (40_step_and_addressing.md R100, R102 to R104). -/
def complete (i : Instr) (body : State → Except Raise State) (s : State) : Result :=
  match body (s.setPc (s.fall i.opcode)) with
  | .ok t => .next (t.setCycles (s.cycles + nominalCost s.params i.opcode))
  | .error e => .next (takeError e i.opcode s)

/-! ## The software interrupt -/

/-- Taking the software interrupt (45_control_transfer.md R222, 60_exceptions.md R251): the return address, high byte
first, then the flags with bits 5 and 4 set, are pushed; I is set; PC is read from the BRK vector. -/
def enterInterrupt (ret : Addr) (s : State) : Except Raise State := do
  let t ← push16 ret s
  let u ← push (pushedFlags t) t
  let w := forceFlag .i true u
  let target ← memRead16 w brkVector
  .ok (w.setPc target)

/-- Returning from it (45_control_transfer.md R223, 60_exceptions.md R252): the flags but B and R, then PC. -/
def returnFromInterrupt (s : State) : Except Raise State := do
  let (v, t) ← pull s
  let (ret, u) ← pull16 (restoreFlags v t)
  .ok (u.setPc ret)

/-! ## The host's actions between steps -/

/-- A machine constructed with its parameter record, before the first reset (70_reset_and_hazards.md R272): A, X and Y are
INITIAL_AXY, memory is INITIAL_MEMORY, the credit is 0 (60_exceptions.md R255). The spec gives the rest no value there: SP,
P and PC, which are unobservable, and `cycles` are 0 (DESIGN CHOICE, log 13), and no error is recorded (DESIGN CHOICE,
log 5). -/
def construct (params : Params) : State where
  a := params.initialA
  x := params.initialX
  y := params.initialY
  sp := 0x00
  pc := 0x0000
  p := ⟨false, false, false, false, false, false, false, false⟩
  run := .reset
  cycles := 0
  faults := []
  mem := Memory.ofCells params.initialMemory
  credit := 0
  params := params

/-- The 16-bit value at a vector. The read cannot raise (70_reset_and_hazards.md R273, `memRead16_vector`). -/
def readVector (s : State) (vector : Addr) : Addr :=
  match memRead16 s vector with
  | .ok w => w
  | .error _ => 0x0000

/-- The eight flag writes of reset, through `forceFlag` (70_reset_and_hazards.md R270). -/
def resetFlags (s : State) : State :=
  forceFlag .c false (forceFlag .z false (forceFlag .i true (forceFlag .d false
    (forceFlag .b false (forceFlag .r false (forceFlag .v false (forceFlag .n false s)))))))

/-- `Reset()`, taken between steps in any run state (70_reset_and_hazards.md R270). It writes nothing else (R271). -/
def hostReset (s : State) : State :=
  let t := resetFlags ((s.setRun .reset).setSp 0xFF)
  ((t.setPc (readVector t resetVector)).setCycles 0).setRun .running

/-- The program-image load (70_reset_and_hazards.md R276). -/
def loadProgram (s : State) (image : List Byte) : Except Raise State := bulkWrite s s.params.cartLoadBase image

/-- The boot order: construction, load, reset; a load that fails starts no machine (70_reset_and_hazards.md R275, R276). -/
def boot (params : Params) (image : List Byte) : Except Raise State := do
  let s ← loadProgram (construct params) image
  .ok (hostReset s)

end Sys2Proof.Machine
end

