-- ==== Sys2Proof/Machine/Operands.lean ====
section
/-! DEFINITION. The operand forms: the effective address of every memory mode (40_step_and_addressing.md R111 to R118) and
operand access by instruction class (R119, R120, 44_inc_dec_shift.md R190). -/

namespace Sys2Proof.Machine

/-- A memory operand: a mode with its operand bytes. -/
inductive MemOperand where
  | zp (b : Byte)
  | zpx (b : Byte)
  | zpy (b : Byte)
  | abs (w : Addr)
  | absx (w : Addr)
  | absy (w : Addr)
  | indx (b : Byte)
  | indy (b : Byte)
  deriving DecidableEq, Repr

/-- The operand of a read-class instruction: the immediate byte, or a byte of memory. -/
inductive ReadOperand where
  | imm (v : Byte)
  | mem (m : MemOperand)
  deriving DecidableEq, Repr

/-- The operand of a read-modify-write form: the accumulator, or a byte of memory. -/
inductive RmwOperand where
  | acc
  | mem (m : MemOperand)
  deriving DecidableEq, Repr

/-- A pointer read from page zero: the low byte, then the high byte, each address wrapping within the page
(40_step_and_addressing.md R116, R117). -/
def zpPointer (s : State) (z : Byte) : Except Raise Addr := do
  let lo ← memRead s (zext16 z)
  let hi ← memRead s (zext16 (z + 1))
  .ok (hilo hi lo)

/-- `EA(mode, b1, b2)` (40_step_and_addressing.md R111 to R114, R116, R117). -/
def MemOperand.ea (m : MemOperand) (s : State) : Except Raise Addr :=
  match m with
  | .zp b => .ok (zext16 b)
  | .zpx b => .ok (zext16 (b + s.x))
  | .zpy b => .ok (zext16 (b + s.y))
  | .abs w => .ok w
  | .absx w => .ok (w + zext16 s.x)
  | .absy w => .ok (w + zext16 s.y)
  | .indx b =>
    if s.params.indxPostIndex then do
      let ptr ← zpPointer s b
      .ok (ptr + zext16 s.x)
    else zpPointer s (b + s.x)
  | .indy b => do
    let ptr ← zpPointer s b
    .ok (ptr + zext16 s.y)

/-- The target of JMP (ind) (40_step_and_addressing.md R115). -/
def indirectTarget (ptr : Addr) (s : State) : Except Raise Addr :=
  if s.params.jmpIndPageWrap then do
    let lo ← memRead s ptr
    let hi ← memRead s ((ptr &&& 0xFF00) ||| ((ptr + 1) &&& 0x00FF))
    .ok (hilo hi lo)
  else memRead16 s ptr

/-- The target of a branch from its fall-through address (40_step_and_addressing.md R118). -/
def branchTarget (fall : Addr) (off : Byte) : Addr := fall + sext16 off

/-- `Operand(mode, b1, b2)` (40_step_and_addressing.md R119). -/
def ReadOperand.value (o : ReadOperand) (s : State) : Except Raise Byte :=
  match o with
  | .imm v => .ok v
  | .mem m => do
    let ea ← m.ea s
    memRead s ea

/-- A read-class instruction: its operand is read, and `f` does the rest. -/
def readClass (o : ReadOperand) (f : Byte → State → State) (s : State) : Except Raise State := do
  let m ← o.value s
  .ok (f m s)

/-- A store-class instruction: one write of `v` to its effective address (40_step_and_addressing.md R120). -/
def storeClass (m : MemOperand) (v : Byte) (s : State) : Except Raise State := do
  let ea ← m.ea s
  memWrite s ea v

/-- `Modify(mode, f)` and the `setNZ(result)` after it (44_inc_dec_shift.md R190): `f` answers the result and the state
with the carry it wrote. -/
def modify (o : RmwOperand) (f : Byte → State → Byte × State) (s : State) : Except Raise State :=
  match o with
  | .acc =>
    let (r, t) := f s.a s
    .ok (setNZ r (t.setA r))
  | .mem m => do
    let ea ← m.ea s
    let v ← memRead s ea
    let (r, t) := f v s
    let u ← memWrite t ea r
    .ok (setNZ r u)

end Sys2Proof.Machine
end

