-- ==== Sys2Proof/Machine/Alu.lean ====
section
/-! DEFINITION. ALU instructions (43_alu.md R170 to R181): add, subtract, logic, compare, bit test. -/

namespace Sys2Proof.Machine

/-- The decimal check of ADC and SBC (43_alu.md R171), after the operand read: under DECIMAL_POLICY = fault with D = 1 the
instruction raises, and otherwise it computes in binary. `op` and `pc0` are its opcode byte and address. -/
def decimalChecked (op : Byte) (pc0 : Addr) (s t : State) : Except Raise State :=
  if s.p.d ∧ s.params.decimal = .fault then .error (.unimplementedOpcode op pc0) else .ok t

/-- 43_alu.md R173 -/
def adc (op : Byte) (pc0 : Addr) (o : ReadOperand) (s : State) : Except Raise State :=
  do
  let m ← o.value s
  decimalChecked op pc0 s (addWithCarry s.a m s)

/-- ADC indx (0x61) -/
def execAdcIndx (b : Byte) (s : State) : Result := complete (.adcIndx b) (adc (Instr.adcIndx b).opcode s.pc (.mem (.indx b))) s

/-- ADC zp (0x65) -/
def execAdcZp (b : Byte) (s : State) : Result := complete (.adcZp b) (adc (Instr.adcZp b).opcode s.pc (.mem (.zp b))) s

/-- ADC imm (0x69) -/
def execAdcImm (v : Byte) (s : State) : Result := complete (.adcImm v) (adc (Instr.adcImm v).opcode s.pc (.imm v)) s

/-- ADC abs (0x6D) -/
def execAdcAbs (w : Addr) (s : State) : Result := complete (.adcAbs w) (adc (Instr.adcAbs w).opcode s.pc (.mem (.abs w))) s

/-- ADC indy (0x71) -/
def execAdcIndy (b : Byte) (s : State) : Result := complete (.adcIndy b) (adc (Instr.adcIndy b).opcode s.pc (.mem (.indy b))) s

/-- ADC zpx (0x75) -/
def execAdcZpx (b : Byte) (s : State) : Result := complete (.adcZpx b) (adc (Instr.adcZpx b).opcode s.pc (.mem (.zpx b))) s

/-- ADC absy (0x79) -/
def execAdcAbsy (w : Addr) (s : State) : Result := complete (.adcAbsy w) (adc (Instr.adcAbsy w).opcode s.pc (.mem (.absy w))) s

/-- ADC absx (0x7D) -/
def execAdcAbsx (w : Addr) (s : State) : Result := complete (.adcAbsx w) (adc (Instr.adcAbsx w).opcode s.pc (.mem (.absx w))) s

/-- 43_alu.md R174: the complement of the operand is added -/
def sbc (op : Byte) (pc0 : Addr) (o : ReadOperand) (s : State) : Except Raise State :=
  do
  let m ← o.value s
  decimalChecked op pc0 s (addWithCarry s.a (m ^^^ 0xFF) s)

/-- SBC indx (0xE1) -/
def execSbcIndx (b : Byte) (s : State) : Result := complete (.sbcIndx b) (sbc (Instr.sbcIndx b).opcode s.pc (.mem (.indx b))) s

/-- SBC zp (0xE5) -/
def execSbcZp (b : Byte) (s : State) : Result := complete (.sbcZp b) (sbc (Instr.sbcZp b).opcode s.pc (.mem (.zp b))) s

/-- SBC imm (0xE9) -/
def execSbcImm (v : Byte) (s : State) : Result := complete (.sbcImm v) (sbc (Instr.sbcImm v).opcode s.pc (.imm v)) s

/-- SBC abs (0xED) -/
def execSbcAbs (w : Addr) (s : State) : Result := complete (.sbcAbs w) (sbc (Instr.sbcAbs w).opcode s.pc (.mem (.abs w))) s

/-- SBC indy (0xF1) -/
def execSbcIndy (b : Byte) (s : State) : Result := complete (.sbcIndy b) (sbc (Instr.sbcIndy b).opcode s.pc (.mem (.indy b))) s

/-- SBC zpx (0xF5) -/
def execSbcZpx (b : Byte) (s : State) : Result := complete (.sbcZpx b) (sbc (Instr.sbcZpx b).opcode s.pc (.mem (.zpx b))) s

/-- SBC absy (0xF9) -/
def execSbcAbsy (w : Addr) (s : State) : Result := complete (.sbcAbsy w) (sbc (Instr.sbcAbsy w).opcode s.pc (.mem (.absy w))) s

/-- SBC absx (0xFD) -/
def execSbcAbsx (w : Addr) (s : State) : Result := complete (.sbcAbsx w) (sbc (Instr.sbcAbsx w).opcode s.pc (.mem (.absx w))) s

/-- 43_alu.md R175 -/
def andA (o : ReadOperand) (s : State) : Except Raise State :=
  readClass o (fun m t => setNZ (t.a &&& m) (t.setA (t.a &&& m))) s

/-- AND indx (0x21) -/
def execAndIndx (b : Byte) (s : State) : Result := complete (.andIndx b) (andA (.mem (.indx b))) s

/-- AND zp (0x25) -/
def execAndZp (b : Byte) (s : State) : Result := complete (.andZp b) (andA (.mem (.zp b))) s

/-- AND imm (0x29) -/
def execAndImm (v : Byte) (s : State) : Result := complete (.andImm v) (andA (.imm v)) s

/-- AND abs (0x2D) -/
def execAndAbs (w : Addr) (s : State) : Result := complete (.andAbs w) (andA (.mem (.abs w))) s

/-- AND indy (0x31) -/
def execAndIndy (b : Byte) (s : State) : Result := complete (.andIndy b) (andA (.mem (.indy b))) s

/-- AND zpx (0x35) -/
def execAndZpx (b : Byte) (s : State) : Result := complete (.andZpx b) (andA (.mem (.zpx b))) s

/-- AND absy (0x39) -/
def execAndAbsy (w : Addr) (s : State) : Result := complete (.andAbsy w) (andA (.mem (.absy w))) s

/-- AND absx (0x3D) -/
def execAndAbsx (w : Addr) (s : State) : Result := complete (.andAbsx w) (andA (.mem (.absx w))) s

/-- 43_alu.md R176 -/
def oraA (o : ReadOperand) (s : State) : Except Raise State :=
  readClass o (fun m t => setNZ (t.a ||| m) (t.setA (t.a ||| m))) s

/-- ORA indx (0x01) -/
def execOraIndx (b : Byte) (s : State) : Result := complete (.oraIndx b) (oraA (.mem (.indx b))) s

/-- ORA zp (0x05) -/
def execOraZp (b : Byte) (s : State) : Result := complete (.oraZp b) (oraA (.mem (.zp b))) s

/-- ORA imm (0x09) -/
def execOraImm (v : Byte) (s : State) : Result := complete (.oraImm v) (oraA (.imm v)) s

/-- ORA abs (0x0D) -/
def execOraAbs (w : Addr) (s : State) : Result := complete (.oraAbs w) (oraA (.mem (.abs w))) s

/-- ORA indy (0x11) -/
def execOraIndy (b : Byte) (s : State) : Result := complete (.oraIndy b) (oraA (.mem (.indy b))) s

/-- ORA zpx (0x15) -/
def execOraZpx (b : Byte) (s : State) : Result := complete (.oraZpx b) (oraA (.mem (.zpx b))) s

/-- ORA absy (0x19) -/
def execOraAbsy (w : Addr) (s : State) : Result := complete (.oraAbsy w) (oraA (.mem (.absy w))) s

/-- ORA absx (0x1D) -/
def execOraAbsx (w : Addr) (s : State) : Result := complete (.oraAbsx w) (oraA (.mem (.absx w))) s

/-- 43_alu.md R177 -/
def eorA (o : ReadOperand) (s : State) : Except Raise State :=
  readClass o (fun m t => setNZ (t.a ^^^ m) (t.setA (t.a ^^^ m))) s

/-- EOR indx (0x41) -/
def execEorIndx (b : Byte) (s : State) : Result := complete (.eorIndx b) (eorA (.mem (.indx b))) s

/-- EOR zp (0x45) -/
def execEorZp (b : Byte) (s : State) : Result := complete (.eorZp b) (eorA (.mem (.zp b))) s

/-- EOR imm (0x49) -/
def execEorImm (v : Byte) (s : State) : Result := complete (.eorImm v) (eorA (.imm v)) s

/-- EOR abs (0x4D) -/
def execEorAbs (w : Addr) (s : State) : Result := complete (.eorAbs w) (eorA (.mem (.abs w))) s

/-- EOR indy (0x51) -/
def execEorIndy (b : Byte) (s : State) : Result := complete (.eorIndy b) (eorA (.mem (.indy b))) s

/-- EOR zpx (0x55) -/
def execEorZpx (b : Byte) (s : State) : Result := complete (.eorZpx b) (eorA (.mem (.zpx b))) s

/-- EOR absy (0x59) -/
def execEorAbsy (w : Addr) (s : State) : Result := complete (.eorAbsy w) (eorA (.mem (.absy w))) s

/-- EOR absx (0x5D) -/
def execEorAbsx (w : Addr) (s : State) : Result := complete (.eorAbsx w) (eorA (.mem (.absx w))) s

/-- 43_alu.md R178 -/
def cmpA (o : ReadOperand) (s : State) : Except Raise State :=
  readClass o (fun m t => compare t.a m t) s

/-- CMP indx (0xC1) -/
def execCmpIndx (b : Byte) (s : State) : Result := complete (.cmpIndx b) (cmpA (.mem (.indx b))) s

/-- CMP zp (0xC5) -/
def execCmpZp (b : Byte) (s : State) : Result := complete (.cmpZp b) (cmpA (.mem (.zp b))) s

/-- CMP imm (0xC9) -/
def execCmpImm (v : Byte) (s : State) : Result := complete (.cmpImm v) (cmpA (.imm v)) s

/-- CMP abs (0xCD) -/
def execCmpAbs (w : Addr) (s : State) : Result := complete (.cmpAbs w) (cmpA (.mem (.abs w))) s

/-- CMP indy (0xD1) -/
def execCmpIndy (b : Byte) (s : State) : Result := complete (.cmpIndy b) (cmpA (.mem (.indy b))) s

/-- CMP zpx (0xD5) -/
def execCmpZpx (b : Byte) (s : State) : Result := complete (.cmpZpx b) (cmpA (.mem (.zpx b))) s

/-- CMP absy (0xD9) -/
def execCmpAbsy (w : Addr) (s : State) : Result := complete (.cmpAbsy w) (cmpA (.mem (.absy w))) s

/-- CMP absx (0xDD) -/
def execCmpAbsx (w : Addr) (s : State) : Result := complete (.cmpAbsx w) (cmpA (.mem (.absx w))) s

/-- 43_alu.md R179 -/
def cpx (o : ReadOperand) (s : State) : Except Raise State :=
  readClass o (fun m t => compare t.x m t) s

/-- CPX imm (0xE0) -/
def execCpxImm (v : Byte) (s : State) : Result := complete (.cpxImm v) (cpx (.imm v)) s

/-- CPX zp (0xE4) -/
def execCpxZp (b : Byte) (s : State) : Result := complete (.cpxZp b) (cpx (.mem (.zp b))) s

/-- CPX abs (0xEC) -/
def execCpxAbs (w : Addr) (s : State) : Result := complete (.cpxAbs w) (cpx (.mem (.abs w))) s

/-- 43_alu.md R180 -/
def cpy (o : ReadOperand) (s : State) : Except Raise State :=
  readClass o (fun m t => compare t.y m t) s

/-- CPY imm (0xC0) -/
def execCpyImm (v : Byte) (s : State) : Result := complete (.cpyImm v) (cpy (.imm v)) s

/-- CPY zp (0xC4) -/
def execCpyZp (b : Byte) (s : State) : Result := complete (.cpyZp b) (cpy (.mem (.zp b))) s

/-- CPY abs (0xCC) -/
def execCpyAbs (w : Addr) (s : State) : Result := complete (.cpyAbs w) (cpy (.mem (.abs w))) s

/-- 43_alu.md R181 -/
def bitA (o : ReadOperand) (s : State) : Except Raise State :=
  readClass o (fun m t => bitTest t.a m t) s

/-- BIT zp (0x24) -/
def execBitZp (b : Byte) (s : State) : Result := complete (.bitZp b) (bitA (.mem (.zp b))) s

/-- BIT abs (0x2C) -/
def execBitAbs (w : Addr) (s : State) : Result := complete (.bitAbs w) (bitA (.mem (.abs w))) s

end Sys2Proof.Machine
end

