-- ==== Sys2Proof/Machine/Control.lean ====
section
/-! DEFINITION. Branches, jumps, subroutines, the software interrupt and its return (45_control_transfer.md R210 to R223). -/

namespace Sys2Proof.Machine

/-- A conditional branch (45_control_transfer.md R210): the body starts with `pc` at the fall-through address, which the
offset is added to. -/
def branch (taken : Bool) (off : Byte) (s : State) : Except Raise State :=
  .ok (if taken then s.setPc (branchTarget s.pc off) else s)

/-- The condition of BCC (45_control_transfer.md R211). -/
def bccTaken (s : State) : Bool := !s.p.c

/-- BCC rel (0x90) -/
def execBcc (off : Byte) (s : State) : Result := complete (.bcc off) (branch (bccTaken s) off) s

/-- The condition of BCS (45_control_transfer.md R212). -/
def bcsTaken (s : State) : Bool := s.p.c

/-- BCS rel (0xB0) -/
def execBcs (off : Byte) (s : State) : Result := complete (.bcs off) (branch (bcsTaken s) off) s

/-- The condition of BEQ (45_control_transfer.md R213). -/
def beqTaken (s : State) : Bool := s.p.z

/-- BEQ rel (0xF0) -/
def execBeq (off : Byte) (s : State) : Result := complete (.beq off) (branch (beqTaken s) off) s

/-- The condition of BMI (45_control_transfer.md R214). -/
def bmiTaken (s : State) : Bool := s.p.n

/-- BMI rel (0x30) -/
def execBmi (off : Byte) (s : State) : Result := complete (.bmi off) (branch (bmiTaken s) off) s

/-- The condition of BNE (45_control_transfer.md R215). -/
def bneTaken (s : State) : Bool := !s.p.z

/-- BNE rel (0xD0) -/
def execBne (off : Byte) (s : State) : Result := complete (.bne off) (branch (bneTaken s) off) s

/-- The condition of BPL (45_control_transfer.md R216). -/
def bplTaken (s : State) : Bool := !s.p.n

/-- BPL rel (0x10) -/
def execBpl (off : Byte) (s : State) : Result := complete (.bpl off) (branch (bplTaken s) off) s

/-- The condition of BVC (45_control_transfer.md R217). -/
def bvcTaken (s : State) : Bool := !s.p.v

/-- BVC rel (0x50) -/
def execBvc (off : Byte) (s : State) : Result := complete (.bvc off) (branch (bvcTaken s) off) s

/-- The condition of BVS (45_control_transfer.md R218). -/
def bvsTaken (s : State) : Bool := s.p.v

/-- BVS rel (0x70) -/
def execBvs (off : Byte) (s : State) : Result := complete (.bvs off) (branch (bvsTaken s) off) s

/-- 45_control_transfer.md R219, absolute -/
def jmpTo (w : Addr) (s : State) : Except Raise State :=
  .ok (s.setPc w)

/-- 45_control_transfer.md R219, indirect -/
def jmpThrough (ptr : Addr) (s : State) : Except Raise State :=
  do
  let target ← indirectTarget ptr s
  .ok (s.setPc target)

/-- JMP abs (0x4C) -/
def execJmpAbs (w : Addr) (s : State) : Result := complete (.jmpAbs w) (jmpTo w) s

/-- JMP ind (0x6C) -/
def execJmpInd (w : Addr) (s : State) : Result := complete (.jmpInd w) (jmpThrough w) s

/-- 45_control_transfer.md R220: the address of JSR's last byte, `pc0 + 2`, is pushed -/
def jsr (pc0 target : Addr) (s : State) : Except Raise State :=
  do
  let t ← push16 (pc0 + 2) s
  .ok (t.setPc target)

/-- JSR abs (0x20) -/
def execJsr (w : Addr) (s : State) : Result := complete (.jsr w) (jsr s.pc w) s

/-- 45_control_transfer.md R221 -/
def rts (s : State) : Except Raise State :=
  do
  let (ret, t) ← pull16 s
  .ok (t.setPc (ret + 1))

/-- RTS imp (0x60) -/
def execRts (s : State) : Result := complete .rts rts s

/-- 45_control_transfer.md R222: the padding byte has no effect -/
def brk (pc0 : Addr) (s : State) : Except Raise State :=
  enterInterrupt (pc0 + 2) s

/-- BRK imp (0x00) -/
def execBrk (pad : Byte) (s : State) : Result := complete (.brk pad) (brk s.pc) s

/-- 45_control_transfer.md R223 -/
def rti (s : State) : Except Raise State :=
  returnFromInterrupt s

/-- RTI imp (0x40) -/
def execRti (s : State) : Result := complete .rti rti s

end Sys2Proof.Machine
end

