-- ==== Sys2Proof/Machine/FlagOps.lean ====
section
/-! DEFINITION. Flag instructions and NOP (46_flags_nop.md R230 to R237). -/

namespace Sys2Proof.Machine

/-- 46_flags_nop.md R230 -/
def clc (s : State) : Except Raise State :=
  .ok (forceFlag .c false s)

/-- CLC imp (0x18) -/
def execClc (s : State) : Result := complete .clc clc s

/-- 46_flags_nop.md R231 -/
def sec (s : State) : Except Raise State :=
  .ok (forceFlag .c true s)

/-- SEC imp (0x38) -/
def execSec (s : State) : Result := complete .sec sec s

/-- 46_flags_nop.md R232 -/
def cli (s : State) : Except Raise State :=
  .ok (forceFlag .i false s)

/-- CLI imp (0x58) -/
def execCli (s : State) : Result := complete .cli cli s

/-- 46_flags_nop.md R233 -/
def sei (s : State) : Except Raise State :=
  .ok (forceFlag .i true s)

/-- SEI imp (0x78) -/
def execSei (s : State) : Result := complete .sei sei s

/-- 46_flags_nop.md R234 -/
def clv (s : State) : Except Raise State :=
  .ok (forceFlag .v false s)

/-- CLV imp (0xB8) -/
def execClv (s : State) : Result := complete .clv clv s

/-- 46_flags_nop.md R235 -/
def cld (s : State) : Except Raise State :=
  .ok (forceFlag .d false s)

/-- CLD imp (0xD8) -/
def execCld (s : State) : Result := complete .cld cld s

/-- 46_flags_nop.md R236 -/
def sed (s : State) : Except Raise State :=
  .ok (forceFlag .d true s)

/-- SED imp (0xF8) -/
def execSed (s : State) : Result := complete .sed sed s

/-- 46_flags_nop.md R237 -/
def nop (s : State) : Except Raise State :=
  .ok s

/-- NOP imp (0xEA) -/
def execNop (s : State) : Result := complete .nop nop s

end Sys2Proof.Machine
end

