-- ==== Sys2Proof/Machine/LoadStore.lean ====
section
/-! DEFINITION. Loads, stores and register transfers (41_load_store_transfer.md R140 to R151): each shared body once, then one meaning for each form. -/

namespace Sys2Proof.Machine

/-- 41_load_store_transfer.md R140: A, then setNZload -/
def lda (o : ReadOperand) (s : State) : Except Raise State :=
  readClass o (fun v t => setNZLoad v (t.setA v)) s

/-- LDA indx (0xA1) -/
def execLdaIndx (b : Byte) (s : State) : Result := complete (.ldaIndx b) (lda (.mem (.indx b))) s

/-- LDA zp (0xA5) -/
def execLdaZp (b : Byte) (s : State) : Result := complete (.ldaZp b) (lda (.mem (.zp b))) s

/-- LDA imm (0xA9) -/
def execLdaImm (v : Byte) (s : State) : Result := complete (.ldaImm v) (lda (.imm v)) s

/-- LDA abs (0xAD) -/
def execLdaAbs (w : Addr) (s : State) : Result := complete (.ldaAbs w) (lda (.mem (.abs w))) s

/-- LDA indy (0xB1) -/
def execLdaIndy (b : Byte) (s : State) : Result := complete (.ldaIndy b) (lda (.mem (.indy b))) s

/-- LDA zpx (0xB5) -/
def execLdaZpx (b : Byte) (s : State) : Result := complete (.ldaZpx b) (lda (.mem (.zpx b))) s

/-- LDA absy (0xB9) -/
def execLdaAbsy (w : Addr) (s : State) : Result := complete (.ldaAbsy w) (lda (.mem (.absy w))) s

/-- LDA absx (0xBD) -/
def execLdaAbsx (w : Addr) (s : State) : Result := complete (.ldaAbsx w) (lda (.mem (.absx w))) s

/-- 41_load_store_transfer.md R141: X, then setNZload -/
def ldx (o : ReadOperand) (s : State) : Except Raise State :=
  readClass o (fun v t => setNZLoad v (t.setX v)) s

/-- LDX imm (0xA2) -/
def execLdxImm (v : Byte) (s : State) : Result := complete (.ldxImm v) (ldx (.imm v)) s

/-- LDX zp (0xA6) -/
def execLdxZp (b : Byte) (s : State) : Result := complete (.ldxZp b) (ldx (.mem (.zp b))) s

/-- LDX abs (0xAE) -/
def execLdxAbs (w : Addr) (s : State) : Result := complete (.ldxAbs w) (ldx (.mem (.abs w))) s

/-- LDX zpy (0xB6) -/
def execLdxZpy (b : Byte) (s : State) : Result := complete (.ldxZpy b) (ldx (.mem (.zpy b))) s

/-- LDX absy (0xBE) -/
def execLdxAbsy (w : Addr) (s : State) : Result := complete (.ldxAbsy w) (ldx (.mem (.absy w))) s

/-- 41_load_store_transfer.md R142: Y, then setNZload -/
def ldy (o : ReadOperand) (s : State) : Except Raise State :=
  readClass o (fun v t => setNZLoad v (t.setY v)) s

/-- LDY imm (0xA0) -/
def execLdyImm (v : Byte) (s : State) : Result := complete (.ldyImm v) (ldy (.imm v)) s

/-- LDY zp (0xA4) -/
def execLdyZp (b : Byte) (s : State) : Result := complete (.ldyZp b) (ldy (.mem (.zp b))) s

/-- LDY abs (0xAC) -/
def execLdyAbs (w : Addr) (s : State) : Result := complete (.ldyAbs w) (ldy (.mem (.abs w))) s

/-- LDY zpx (0xB4) -/
def execLdyZpx (b : Byte) (s : State) : Result := complete (.ldyZpx b) (ldy (.mem (.zpx b))) s

/-- LDY absx (0xBC) -/
def execLdyAbsx (w : Addr) (s : State) : Result := complete (.ldyAbsx w) (ldy (.mem (.absx w))) s

/-- 41_load_store_transfer.md R143: A stored, no flag -/
def sta (m : MemOperand) (s : State) : Except Raise State :=
  storeClass m s.a s

/-- STA indx (0x81) -/
def execStaIndx (b : Byte) (s : State) : Result := complete (.staIndx b) (sta (.indx b)) s

/-- STA zp (0x85) -/
def execStaZp (b : Byte) (s : State) : Result := complete (.staZp b) (sta (.zp b)) s

/-- STA abs (0x8D) -/
def execStaAbs (w : Addr) (s : State) : Result := complete (.staAbs w) (sta (.abs w)) s

/-- STA indy (0x91) -/
def execStaIndy (b : Byte) (s : State) : Result := complete (.staIndy b) (sta (.indy b)) s

/-- STA zpx (0x95) -/
def execStaZpx (b : Byte) (s : State) : Result := complete (.staZpx b) (sta (.zpx b)) s

/-- STA absy (0x99) -/
def execStaAbsy (w : Addr) (s : State) : Result := complete (.staAbsy w) (sta (.absy w)) s

/-- STA absx (0x9D) -/
def execStaAbsx (w : Addr) (s : State) : Result := complete (.staAbsx w) (sta (.absx w)) s

/-- 41_load_store_transfer.md R144: X stored, no flag -/
def stx (m : MemOperand) (s : State) : Except Raise State :=
  storeClass m s.x s

/-- STX zp (0x86) -/
def execStxZp (b : Byte) (s : State) : Result := complete (.stxZp b) (stx (.zp b)) s

/-- STX abs (0x8E) -/
def execStxAbs (w : Addr) (s : State) : Result := complete (.stxAbs w) (stx (.abs w)) s

/-- STX zpy (0x96) -/
def execStxZpy (b : Byte) (s : State) : Result := complete (.stxZpy b) (stx (.zpy b)) s

/-- 41_load_store_transfer.md R145: Y stored, no flag -/
def sty (m : MemOperand) (s : State) : Except Raise State :=
  storeClass m s.y s

/-- STY zp (0x84) -/
def execStyZp (b : Byte) (s : State) : Result := complete (.styZp b) (sty (.zp b)) s

/-- STY abs (0x8C) -/
def execStyAbs (w : Addr) (s : State) : Result := complete (.styAbs w) (sty (.abs w)) s

/-- STY zpx (0x94) -/
def execStyZpx (b : Byte) (s : State) : Result := complete (.styZpx b) (sty (.zpx b)) s

/-- 41_load_store_transfer.md R146 -/
def tax (s : State) : Except Raise State :=
  .ok (setNZ s.a (s.setX s.a))

/-- TAX imp (0xAA) -/
def execTax (s : State) : Result := complete .tax tax s

/-- 41_load_store_transfer.md R147 -/
def tay (s : State) : Except Raise State :=
  .ok (setNZ s.a (s.setY s.a))

/-- TAY imp (0xA8) -/
def execTay (s : State) : Result := complete .tay tay s

/-- 41_load_store_transfer.md R148 -/
def txa (s : State) : Except Raise State :=
  .ok (setNZ s.x (s.setA s.x))

/-- TXA imp (0x8A) -/
def execTxa (s : State) : Result := complete .txa txa s

/-- 41_load_store_transfer.md R149 -/
def tya (s : State) : Except Raise State :=
  .ok (setNZ s.y (s.setA s.y))

/-- TYA imp (0x98) -/
def execTya (s : State) : Result := complete .tya tya s

/-- 41_load_store_transfer.md R150 -/
def tsx (s : State) : Except Raise State :=
  .ok (setNZ s.sp (s.setX s.sp))

/-- TSX imp (0xBA) -/
def execTsx (s : State) : Result := complete .tsx tsx s

/-- 41_load_store_transfer.md R151: no flag is written -/
def txs (s : State) : Except Raise State :=
  .ok (s.setSp s.x)

/-- TXS imp (0x9A) -/
def execTxs (s : State) : Result := complete .txs txs s

end Sys2Proof.Machine
end

