-- ==== Sys2Proof/Machine/Shift.lean ====
section
/-! DEFINITION. Increment, decrement, shift and rotate (44_inc_dec_shift.md R190 to R200). The functions `…Byte` answer the result and the state with the carry they wrote. -/

namespace Sys2Proof.Machine

/-- 44_inc_dec_shift.md R191 -/
def incByte (v : Byte) (s : State) : Byte × State := (v + 1, s)

/-- 44_inc_dec_shift.md R191 -/
def incM (o : RmwOperand) (s : State) : Except Raise State :=
  modify o incByte s

/-- INC zp (0xE6) -/
def execIncZp (b : Byte) (s : State) : Result := complete (.incZp b) (incM (.mem (.zp b))) s

/-- INC abs (0xEE) -/
def execIncAbs (w : Addr) (s : State) : Result := complete (.incAbs w) (incM (.mem (.abs w))) s

/-- INC zpx (0xF6) -/
def execIncZpx (b : Byte) (s : State) : Result := complete (.incZpx b) (incM (.mem (.zpx b))) s

/-- INC absx (0xFE) -/
def execIncAbsx (w : Addr) (s : State) : Result := complete (.incAbsx w) (incM (.mem (.absx w))) s

/-- 44_inc_dec_shift.md R192 -/
def decByte (v : Byte) (s : State) : Byte × State := (v - 1, s)

/-- 44_inc_dec_shift.md R192 -/
def decM (o : RmwOperand) (s : State) : Except Raise State :=
  modify o decByte s

/-- DEC zp (0xC6) -/
def execDecZp (b : Byte) (s : State) : Result := complete (.decZp b) (decM (.mem (.zp b))) s

/-- DEC abs (0xCE) -/
def execDecAbs (w : Addr) (s : State) : Result := complete (.decAbs w) (decM (.mem (.abs w))) s

/-- DEC zpx (0xD6) -/
def execDecZpx (b : Byte) (s : State) : Result := complete (.decZpx b) (decM (.mem (.zpx b))) s

/-- DEC absx (0xDE) -/
def execDecAbsx (w : Addr) (s : State) : Result := complete (.decAbsx w) (decM (.mem (.absx w))) s

/-- 44_inc_dec_shift.md R193 -/
def inx (s : State) : Except Raise State :=
  .ok (setNZ (s.x + 1) (s.setX (s.x + 1)))

/-- INX imp (0xE8) -/
def execInx (s : State) : Result := complete .inx inx s

/-- 44_inc_dec_shift.md R194 -/
def iny (s : State) : Except Raise State :=
  .ok (setNZ (s.y + 1) (s.setY (s.y + 1)))

/-- INY imp (0xC8) -/
def execIny (s : State) : Result := complete .iny iny s

/-- 44_inc_dec_shift.md R195 -/
def dex (s : State) : Except Raise State :=
  .ok (setNZ (s.x - 1) (s.setX (s.x - 1)))

/-- DEX imp (0xCA) -/
def execDex (s : State) : Result := complete .dex dex s

/-- 44_inc_dec_shift.md R196 -/
def dey (s : State) : Except Raise State :=
  .ok (setNZ (s.y - 1) (s.setY (s.y - 1)))

/-- DEY imp (0x88) -/
def execDey (s : State) : Result := complete .dey dey s

/-- 44_inc_dec_shift.md R197: C is the old bit 7 -/
def aslByte (v : Byte) (s : State) : Byte × State := (v <<< 1, setFlag .c (v.getLsbD 7) s)

/-- 44_inc_dec_shift.md R197 -/
def asl (o : RmwOperand) (s : State) : Except Raise State :=
  modify o aslByte s

/-- ASL zp (0x06) -/
def execAslZp (b : Byte) (s : State) : Result := complete (.aslZp b) (asl (.mem (.zp b))) s

/-- ASL acc (0x0A) -/
def execAslAcc (s : State) : Result := complete .aslAcc (asl .acc) s

/-- ASL abs (0x0E) -/
def execAslAbs (w : Addr) (s : State) : Result := complete (.aslAbs w) (asl (.mem (.abs w))) s

/-- ASL zpx (0x16) -/
def execAslZpx (b : Byte) (s : State) : Result := complete (.aslZpx b) (asl (.mem (.zpx b))) s

/-- ASL absx (0x1E) -/
def execAslAbsx (w : Addr) (s : State) : Result := complete (.aslAbsx w) (asl (.mem (.absx w))) s

/-- 44_inc_dec_shift.md R198: C is the old bit 0 -/
def lsrByte (v : Byte) (s : State) : Byte × State := (v >>> 1, setFlag .c (v.getLsbD 0) s)

/-- 44_inc_dec_shift.md R198 -/
def lsr (o : RmwOperand) (s : State) : Except Raise State :=
  modify o lsrByte s

/-- LSR zp (0x46) -/
def execLsrZp (b : Byte) (s : State) : Result := complete (.lsrZp b) (lsr (.mem (.zp b))) s

/-- LSR acc (0x4A) -/
def execLsrAcc (s : State) : Result := complete .lsrAcc (lsr .acc) s

/-- LSR abs (0x4E) -/
def execLsrAbs (w : Addr) (s : State) : Result := complete (.lsrAbs w) (lsr (.mem (.abs w))) s

/-- LSR zpx (0x56) -/
def execLsrZpx (b : Byte) (s : State) : Result := complete (.lsrZpx b) (lsr (.mem (.zpx b))) s

/-- LSR absx (0x5E) -/
def execLsrAbsx (w : Addr) (s : State) : Result := complete (.lsrAbsx w) (lsr (.mem (.absx w))) s

/-- A carry as a byte. -/
def zextCarry (c : Bool) : Byte := (BitVec.ofBool c).setWidth 8

/-- 44_inc_dec_shift.md R199: the old carry is read before C is written -/
def rolByte (v : Byte) (s : State) : Byte × State := ((v <<< 1) ||| zextCarry s.p.c, setFlag .c (v.getLsbD 7) s)

/-- 44_inc_dec_shift.md R199 -/
def rol (o : RmwOperand) (s : State) : Except Raise State :=
  modify o rolByte s

/-- ROL zp (0x26) -/
def execRolZp (b : Byte) (s : State) : Result := complete (.rolZp b) (rol (.mem (.zp b))) s

/-- ROL acc (0x2A) -/
def execRolAcc (s : State) : Result := complete .rolAcc (rol .acc) s

/-- ROL abs (0x2E) -/
def execRolAbs (w : Addr) (s : State) : Result := complete (.rolAbs w) (rol (.mem (.abs w))) s

/-- ROL zpx (0x36) -/
def execRolZpx (b : Byte) (s : State) : Result := complete (.rolZpx b) (rol (.mem (.zpx b))) s

/-- ROL absx (0x3E) -/
def execRolAbsx (w : Addr) (s : State) : Result := complete (.rolAbsx w) (rol (.mem (.absx w))) s

/-- 44_inc_dec_shift.md R200: the old carry is read before C is written -/
def rorByte (v : Byte) (s : State) : Byte × State := ((v >>> 1) ||| (zextCarry s.p.c <<< 7), setFlag .c (v.getLsbD 0) s)

/-- 44_inc_dec_shift.md R200 -/
def ror (o : RmwOperand) (s : State) : Except Raise State :=
  modify o rorByte s

/-- ROR zp (0x66) -/
def execRorZp (b : Byte) (s : State) : Result := complete (.rorZp b) (ror (.mem (.zp b))) s

/-- ROR acc (0x6A) -/
def execRorAcc (s : State) : Result := complete .rorAcc (ror .acc) s

/-- ROR abs (0x6E) -/
def execRorAbs (w : Addr) (s : State) : Result := complete (.rorAbs w) (ror (.mem (.abs w))) s

/-- ROR zpx (0x76) -/
def execRorZpx (b : Byte) (s : State) : Result := complete (.rorZpx b) (ror (.mem (.zpx b))) s

/-- ROR absx (0x7E) -/
def execRorAbsx (w : Addr) (s : State) : Result := complete (.rorAbsx w) (ror (.mem (.absx w))) s

end Sys2Proof.Machine
end

