-- ==== Sys2Proof/Machine/Stack.lean ====
section
/-! DEFINITION. Stack instructions (42_stack.md R160 to R163). -/

namespace Sys2Proof.Machine

/-- 42_stack.md R160 -/
def pha (s : State) : Except Raise State :=
  push s.a s

/-- PHA imp (0x48) -/
def execPha (s : State) : Result := complete .pha pha s

/-- 42_stack.md R161: the copy has bits 5 and 4 set -/
def php (s : State) : Except Raise State :=
  push (pushedFlags s) s

/-- PHP imp (0x08) -/
def execPhp (s : State) : Result := complete .php php s

/-- 42_stack.md R162: setNZ, not setNZload -/
def pla (s : State) : Except Raise State :=
  do
  let (v, t) ← pull s
  .ok (setNZ v (t.setA v))

/-- PLA imp (0x68) -/
def execPla (s : State) : Result := complete .pla pla s

/-- 42_stack.md R163: B and R are not written -/
def plp (s : State) : Except Raise State :=
  do
  let (v, t) ← pull s
  .ok (restoreFlags v t)

/-- PLP imp (0x28) -/
def execPlp (s : State) : Result := complete .plp plp s

end Sys2Proof.Machine
end

