-- ==== Sys2Proof/Machine/Fetch.lean ====
section
/-! DEFINITION. Phase F of the step, the fetch of an instruction's bytes (40_step_and_addressing.md R100), and the placing
of an instruction's bytes where the step fetches. -/

namespace Sys2Proof.Machine

/-- What phase F fetched: the opcode byte and the operand bytes, an absent one 0x00. -/
structure Fetched where
  op : Byte
  b1 : Byte
  b2 : Byte
  deriving DecidableEq, Repr

/-- An error of phase F: what was raised, and the opcode byte if its fetch succeeded (60_exceptions.md R241). -/
structure FetchError where
  raised : Raise
  op : Option Byte
  deriving DecidableEq, Repr

/-- An operand byte, present when the instruction has at least `k` of them, and 0x00 otherwise. -/
def fetchOperand (s : State) (n k : Nat) : Except Raise Byte :=
  if n < k then .ok 0x00 else memRead s (s.pc + BitVec.ofNat 16 k)

/-- Phase F: the opcode, the bound at the end of the space, b1, b2, in this order (40_step_and_addressing.md R100,
60_exceptions.md R245). -/
def fetch (s : State) : Except FetchError Fetched :=
  match memRead s s.pc with
  | .error e => .error ⟨e, none⟩
  | .ok op =>
    if s.pc.toNat + oplen op > 0xFFFF then .error ⟨.outOfBoundsAccess s.pc (1 + oplen op), some op⟩
    else
      match fetchOperand s (oplen op) 1 with
      | .error e => .error ⟨e, some op⟩
      | .ok b1 =>
        match fetchOperand s (oplen op) 2 with
        | .error e => .error ⟨e, some op⟩
        | .ok b2 => .ok ⟨op, b1, b2⟩

/-- `n` bytes from an address are all inside the space and mapped. -/
def fetchable (s : State) (addr : Addr) (n : Nat) : Bool :=
  addr.toNat + n ≤ 0x10000 && (firstUnmapped s addr n).isNone

/-- An instruction's bytes stored where the step fetches its next instruction, on a machine that takes that step: the
program counter stays where it is when the bytes fit there, and is moved to 0x0000 (work RAM) when some of them would lie
past the end of the space or at an unmapped address; `run` becomes Running (log 10). -/
def placeInstruction (s : State) (bytes : List Byte) : State :=
  let len := 1 + oplen (bytes.getD 0 0x00)
  let t := if fetchable s s.pc len then s else s.setPc 0x0000
  storeBytes (t.setRun .running) t.pc (bytes.take len)

end Sys2Proof.Machine
end

