-- ==== Sys2Proof/Machine/Step.lean ====
section
/-! DEFINITION. The step (40_step_and_addressing.md R100), and the placing of an instruction where it fetches. -/

namespace Sys2Proof.Machine

/-- One step of the engine, taken only when `run = Running` (10_state.md R23): fetch, decode, execute. An error of phase F
halts; an unimplemented opcode goes to the sentinel; any other instruction is executed. -/
def step (s : State) : Host.Outcome State Fault Refusal :=
  match s.run with
  | .reset => .fault .inReset
  | .halted k => .fault (.halted k)
  | .running =>
    match fetch s with
    | .error e => .next (takeFetchError e.raised e.op s)
    | .ok f =>
      match decodeOp f.op f.b1 f.b2 with
      | some i => exec i s
      | none => .next (sentinel f.op s)

/-- `s` with the instruction `w` of the opcode table stored where `step` fetches its next instruction. -/
def State.withFetchWord (s : State) (nbits w : Nat) : State := placeInstruction s (tableBytes nbits w)

end Sys2Proof.Machine
end

