-- ==== Sys2Proof/Machine/Scheduler.lean ====
section
/-! DEFINITION. The host's scheduler above the step: a frame (60_exceptions.md R255), the cooperative stop (R262), a run of
frames and its end (R261). The host's stop requests and END_PC are inputs of a launch, so they are arguments here (log 11,
log 12). A loop that may go on for ever is evaluated for a number of turns, and answers nothing where it has not ended within
them: the number ends no frame and no run (log 11). -/

namespace Sys2Proof.Machine

/-! ## A frame -/

/-- The start of a frame: FRAME_BUDGET is added to the credit. -/
def frameBegin (s : State) : State := s.setCredit (s.credit + s.params.frameBudget.val)

/-- The condition of a frame's loop, checked once at each instruction boundary; `stop` is the host's answer there. -/
def frameContinues (stop : Bool) (s : State) : Bool := decide (0 < s.credit) && s.run == .running && !stop

/-- One turn of the loop: a step, and the cycles it added taken from the credit. -/
def frameStep (s : State) : State :=
  match step s with
  | .next t => t.setCredit (s.credit - ((t.cycles : Rat) - (s.cycles : Rat)))
  | .fault _ | .refused _ => s

/-- The state in which a frame's loop ends, if it ends within `turns` turns; `stop k` is the host's answer at the `k`-th
boundary of the frame. No reset is taken inside the loop, DESIGN CHOICE (log 23): a reset between two steps of a frame
(70_reset_and_hazards.md R275) is a stop that ends the frame there, `hostReset`, and a new `runFrame`. -/
def frameLoop (stop : Nat → Bool) : (turns k : Nat) → State → Option State
  | 0, k, s => if frameContinues (stop k) s then none else some s
  | turns + 1, k, s => if frameContinues (stop k) s then frameLoop stop turns (k + 1) (frameStep s) else some s

/-- `RunFrame()`, evaluated for `turns` turns of its loop (60_exceptions.md R255). -/
def runFrame (stop : Nat → Bool) (turns : Nat) (s : State) : Option State := frameLoop stop turns 0 (frameBegin s)

/-- `RunFrame()` from `s` ends in `t`, after however many turns. Where no `t` has this, the frame never ends. -/
def FrameEnds (stop : Nat → Bool) (s t : State) : Prop := ∃ turns, runFrame stop turns s = some t

/-! ## A run -/

/-- Why a run has ended (60_exceptions.md R261). -/
inductive RunEnd where
  | halted (kind : ErrorKind)
  | reachedEndPc
  | hostStopped
  deriving DecidableEq, Repr

/-- The end of a run, if it has ended at this point: Halted, the launch's END_PC if it names one, or the host's stop
(60_exceptions.md R261). The order of the three where several hold is the model's, DESIGN CHOICE (log 12). A machine in
Reset is at no instruction boundary and its PC is unobservable (70_reset_and_hazards.md R272), so that END_PC is not
compared there, DEDUCED (log 22): only the host's stop ends it. -/
def runEnd? (endPc : Option Addr) (hostStop : Bool) (s : State) : Option RunEnd :=
  match s.run with
  | .halted k => some (.halted k)
  | .running => if endPc = some s.pc then some .reachedEndPc else if hostStop then some .hostStopped else none
  | .reset => if hostStop then some .hostStopped else none

/-- One move of a host that goes on calling `RunFrame`: the frame's next step, or, where the frame has ended, the start of
the next. -/
def runTurn (s : State) : State := if frameContinues false s then frameStep s else frameBegin s

/-- The states of a run of frames that nothing ends, from the start of its first frame. A reset is no move of a run: the run
after it is another, from `hostReset` (log 23). -/
def runState (s : State) : Nat → State
  | 0 => frameBegin s
  | n + 1 => runTurn (runState s n)

/-- The first point from `s` on, within `turns` moves, at which the run has ended: why, and the state there; `stop k` is the
host's answer at the `k`-th point. -/
def runUntil (endPc : Option Addr) (stop : Nat → Bool) : (turns k : Nat) → State → Option (RunEnd × State)
  | 0, k, s => (runEnd? endPc (stop k) s).map (fun e => (e, s))
  | turns + 1, k, s =>
    match runEnd? endPc (stop k) s with
    | some e => some (e, s)
    | none => runUntil endPc stop turns (k + 1) (runTurn s)

/-- A run of frames from `s`, evaluated for `turns` moves: it ends at the first point where one of the three ends holds
(60_exceptions.md R261, log 22). -/
def runFrames (endPc : Option Addr) (stop : Nat → Bool) (turns : Nat) (s : State) : Option (RunEnd × State) :=
  runUntil endPc stop turns 0 (frameBegin s)

end Sys2Proof.Machine
end

