-- ==== Sys2Proof/Safety.lean ====
section
/-! DEFINITION. What claims about runs are stated in: the runs from a state, a run without an error (60_exceptions.md R247),
and the facts that hold at every instruction boundary after the first reset. -/

namespace Sys2Proof.Machine

/-- `t` is reached from `s` by some number of steps. -/
inductive Reaches (s : State) : State → Prop where
  | refl : Reaches s s
  | step {t u : State} : Reaches s t → Sys2Proof.Machine.step t = .next u → Reaches s u

/-- A run without an error must have no record, since a skip policy lets execution go on after one
(60_exceptions.md R247). -/
def State.faultFree (s : State) : Bool := s.faults == []

/-- Every state a run reaches is free of recorded errors. -/
def SafeRun (s : State) : Prop := ∀ t, Reaches s t → t.faultFree = true

/-- What an error record says is so: an unmapped address is unmapped, a rejected access passes 0xFFFF, an unimplemented
opcode is that of the faulting instruction, and is in the sentinel's set or one of ADC and SBC under DECIMAL_POLICY =
fault (60_exceptions.md R240, R241). -/
def FaultRecord.truthful (c : Params) (r : FaultRecord) : Bool :=
  match r.raised with
  | .unmappedAddress addr => (busDecode c.ppuRegMirror addr).isNone
  | .outOfBoundsAccess addr n => decide (0x10000 < addr.toNat + n)
  | .unimplementedOpcode op pc =>
    r.op == some op && r.pc == pc &&
      match decodeOp op 0x00 0x00 with
      | none => true
      | some i => (i.mnemonic == .adc || i.mnemonic == .sbc) && c.decimal == .fault

/-- A halted machine recorded the error that halted it last, and PC stayed at the faulting instruction
(60_exceptions.md R243, R244, R246). -/
def State.haltRecorded (s : State) : Bool :=
  match s.run with
  | .halted k =>
    match s.faults.getLast? with
    | some r => r.kind == k && r.pc == s.pc
    | none => false
  | .reset | .running => true

/-- What holds at every instruction boundary after the first reset: memory is in its canonical form, the stored Reserved
and Break flags are 0 (10_state.md R17), the machine is not in Reset, a halt is recorded, and every record is truthful. -/
def State.inv (s : State) : Bool :=
  s.mem.wf && !s.p.r && !s.p.b && s.run != .reset && s.haltRecorded && s.faults.all (FaultRecord.truthful s.params)

end Sys2Proof.Machine
end

