-- ==== Sys2Proof/Certificates/Slice0/Obligations.lean ====
section
/-! DEFINITION. The statements for the provers: the numbered rules of the spec about this model. The helpers of
`Sys2Proof.Claim` say in the spec's own arithmetic what the statements need: flags as conditions, sums and differences as
numbers, the state after an instruction that only advances, what memory reads as after a store. -/

namespace Sys2Proof.Claim

open Sys2Proof.Machine

/-! ## Results -/

/-- The value a result flag takes: the condition, or, for a flag in SET_ONLY_FLAGS, the condition or the old value
(10_state.md R18). -/
def flag (only cond old : Bool) : Bool := if only then cond || old else cond

/-- Flags with Z and N set from a result byte (10_state.md R20). -/
def withNZ (s : State) (v : Byte) (p : Flags) : Flags :=
  { p with
    n := flag s.params.setOnly.n (decide (0x80 ≤ v.toNat)) p.n
    z := flag s.params.setOnly.z (decide (v.toNat = 0)) p.z }

/-- Flags with Z and N set from a loaded byte: with LOAD_N_QUIRK, N from "the value is zero" (10_state.md R20). -/
def withNZLoad (s : State) (v : Byte) (p : Flags) : Flags :=
  { p with
    n := flag s.params.setOnly.n (if s.params.loadNQuirk then decide (v.toNat = 0) else decide (0x80 ≤ v.toNat)) p.n
    z := flag s.params.setOnly.z (decide (v.toNat = 0)) p.z }

/-- Flags with C, then Z and N, set from a carry and a result byte. -/
def withCNZ (s : State) (c : Bool) (v : Byte) (p : Flags) : Flags :=
  withNZ s v { p with c := flag s.params.setOnly.c c p.c }

/-- The flags of a sum: C, V, Z and N (43_alu.md R170). -/
def withSum (s : State) (c v : Bool) (r : Byte) (p : Flags) : Flags :=
  withCNZ s c r { p with v := flag s.params.setOnly.v v p.v }

/-- The flags of a comparison of a register value with an operand (43_alu.md R172), `d` their difference as an integer:
bit 7 of the 16-bit difference is bit 7 of `d` modulo 256. -/
def withCompare (s : State) (r m : Byte) (p : Flags) : Flags :=
  let d : Int := (r.toNat : Int) - (m.toNat : Int)
  { p with
    z := flag s.params.setOnly.z (decide (d = 0)) p.z
    n := flag s.params.setOnly.n
      (match s.params.cmpN with
        | .bit7 => decide (128 ≤ d % 256)
        | .sign16 => decide (d < 0)) p.n
    c := flag s.params.setOnly.c (if s.params.cmpCarryReversed then decide (d ≤ 0) else decide (0 ≤ d)) p.c }

/-- A carry as a number. -/
def bit (c : Bool) : Nat := if c then 1 else 0

/-- `hi:lo` as a number (00_scope.md section 5). -/
def word (hi lo : Byte) : Addr := BitVec.ofNat 16 (256 * hi.toNat + lo.toNat)

/-- The packed flags with bits 5 and 4 set, as PHP and BRK push them (10_state.md R16, R17). -/
def pushedByte (p : Flags) : Byte :=
  BitVec.ofNat 8 (128 * bit p.n + 64 * bit p.v + 32 + 16 + 8 * bit p.d + 4 * bit p.i + 2 * bit p.z + bit p.c)

/-- Flags restored from a pulled byte: all but R and B (10_state.md R16). -/
def pulledFlags (v : Byte) (p : Flags) : Flags :=
  { n := decide (v.toNat / 128 % 2 = 1)
    v := decide (v.toNat / 64 % 2 = 1)
    r := p.r
    b := p.b
    d := decide (v.toNat / 8 % 2 = 1)
    i := decide (v.toNat / 4 % 2 = 1)
    z := decide (v.toNat / 2 % 2 = 1)
    c := decide (v.toNat % 2 = 1) }

/-! ## The state after an instruction -/

/-- `s` after an instruction that only advances: PC past its bytes and the nominal cost added
(40_step_and_addressing.md R101 to R103). -/
def after (i : Instr) (s : State) : State :=
  { s with
    pc := s.pc + BitVec.ofNat 16 (encode i).length
    cycles := s.cycles + nominalCost s.params i.opcode }

/-- `s` after an instruction that raised `e` in phase E: the record, and a halt or a skip (60_exceptions.md R241 to R246). -/
def errorTaken (i : Instr) (e : Raise) (skip : Bool) (s : State) : State :=
  if skip then { after i s with faults := s.faults ++ [⟨e, s.pc, some i.opcode⟩] }
  else { s with faults := s.faults ++ [⟨e, s.pc, some i.opcode⟩], run := .halted e.kind }

/-- `s` halted by an error of phase F (60_exceptions.md R244). -/
def fetchHalted (e : Raise) (op : Option Byte) (s : State) : State :=
  { s with faults := s.faults ++ [⟨e, s.pc, op⟩], run := .halted e.kind }

/-! ## Memory -/

/-- Page zero's byte `n mod 256`. -/
def zp (n : Nat) : Addr := BitVec.ofNat 16 (n % 256)

/-- The bus address of a stack byte (20_memory.md R56). -/
def stackAt (s : State) (sp : Byte) : Addr :=
  BitVec.ofNat 16 ((match s.params.stackBase with | .page1 => 0x0100 | .page0 => 0x0000) + sp.toNat)

/-- The byte an operand stands for: the immediate byte, or what memory holds at the effective address
(40_step_and_addressing.md R119). -/
def Operand (s : State) (o : ReadOperand) (v : Byte) : Prop :=
  match o with
  | .imm k => k = v
  | .mem m => ∃ ea, m.ea s = .ok ea ∧ memRead s ea = .ok v

/-- `t` reads as `s` with bytes stored, the latest store first: an address that reaches the cell of a stored one reads
that byte, and every other address reads as before. -/
def ReadsAfter (s t : State) (stores : List (Addr × Byte)) : Prop :=
  ∀ x : Addr, memRead t x =
    match stores.find? (fun e => s.decodeAddr e.1 == s.decodeAddr x) with
    | some e => .ok e.2
    | none => memRead s x

/-- An instruction's store of `v` at a mapped address, which CART_CPU_WRITE = ignore drops in the cartridge window
(20_memory.md R49). -/
def CpuStored (s t : State) (ea : Addr) (v : Byte) : Prop :=
  ReadsAfter s t (if 0x4020 ≤ ea.toNat ∧ s.params.cartWrite = .ignore then [] else [(ea, v)])

/-! ## Forms -/

/-- The forms of LDA with their operands. -/
def ldaForms (k b : Byte) (w : Addr) : List (Instr × ReadOperand) :=
  [(.ldaIndx b, .mem (.indx b)), (.ldaZp b, .mem (.zp b)), (.ldaImm k, .imm k), (.ldaAbs w, .mem (.abs w)),
   (.ldaIndy b, .mem (.indy b)), (.ldaZpx b, .mem (.zpx b)), (.ldaAbsy w, .mem (.absy w)), (.ldaAbsx w, .mem (.absx w))]

/-- The forms of LDX with their operands. -/
def ldxForms (k b : Byte) (w : Addr) : List (Instr × ReadOperand) :=
  [(.ldxImm k, .imm k), (.ldxZp b, .mem (.zp b)), (.ldxAbs w, .mem (.abs w)), (.ldxZpy b, .mem (.zpy b)),
   (.ldxAbsy w, .mem (.absy w))]

/-- The forms of LDY with their operands. -/
def ldyForms (k b : Byte) (w : Addr) : List (Instr × ReadOperand) :=
  [(.ldyImm k, .imm k), (.ldyZp b, .mem (.zp b)), (.ldyAbs w, .mem (.abs w)), (.ldyZpx b, .mem (.zpx b)),
   (.ldyAbsx w, .mem (.absx w))]

/-- The forms of ADC with their operands. -/
def adcForms (k b : Byte) (w : Addr) : List (Instr × ReadOperand) :=
  [(.adcIndx b, .mem (.indx b)), (.adcZp b, .mem (.zp b)), (.adcImm k, .imm k), (.adcAbs w, .mem (.abs w)),
   (.adcIndy b, .mem (.indy b)), (.adcZpx b, .mem (.zpx b)), (.adcAbsy w, .mem (.absy w)), (.adcAbsx w, .mem (.absx w))]

/-- The forms of SBC with their operands. -/
def sbcForms (k b : Byte) (w : Addr) : List (Instr × ReadOperand) :=
  [(.sbcIndx b, .mem (.indx b)), (.sbcZp b, .mem (.zp b)), (.sbcImm k, .imm k), (.sbcAbs w, .mem (.abs w)),
   (.sbcIndy b, .mem (.indy b)), (.sbcZpx b, .mem (.zpx b)), (.sbcAbsy w, .mem (.absy w)), (.sbcAbsx w, .mem (.absx w))]

/-- The forms of AND with their operands. -/
def andForms (k b : Byte) (w : Addr) : List (Instr × ReadOperand) :=
  [(.andIndx b, .mem (.indx b)), (.andZp b, .mem (.zp b)), (.andImm k, .imm k), (.andAbs w, .mem (.abs w)),
   (.andIndy b, .mem (.indy b)), (.andZpx b, .mem (.zpx b)), (.andAbsy w, .mem (.absy w)), (.andAbsx w, .mem (.absx w))]

/-- The forms of ORA with their operands. -/
def oraForms (k b : Byte) (w : Addr) : List (Instr × ReadOperand) :=
  [(.oraIndx b, .mem (.indx b)), (.oraZp b, .mem (.zp b)), (.oraImm k, .imm k), (.oraAbs w, .mem (.abs w)),
   (.oraIndy b, .mem (.indy b)), (.oraZpx b, .mem (.zpx b)), (.oraAbsy w, .mem (.absy w)), (.oraAbsx w, .mem (.absx w))]

/-- The forms of EOR with their operands. -/
def eorForms (k b : Byte) (w : Addr) : List (Instr × ReadOperand) :=
  [(.eorIndx b, .mem (.indx b)), (.eorZp b, .mem (.zp b)), (.eorImm k, .imm k), (.eorAbs w, .mem (.abs w)),
   (.eorIndy b, .mem (.indy b)), (.eorZpx b, .mem (.zpx b)), (.eorAbsy w, .mem (.absy w)), (.eorAbsx w, .mem (.absx w))]

/-- The forms of CMP with their operands. -/
def cmpForms (k b : Byte) (w : Addr) : List (Instr × ReadOperand) :=
  [(.cmpIndx b, .mem (.indx b)), (.cmpZp b, .mem (.zp b)), (.cmpImm k, .imm k), (.cmpAbs w, .mem (.abs w)),
   (.cmpIndy b, .mem (.indy b)), (.cmpZpx b, .mem (.zpx b)), (.cmpAbsy w, .mem (.absy w)), (.cmpAbsx w, .mem (.absx w))]

/-- The forms of CPX with their operands. -/
def cpxForms (k b : Byte) (w : Addr) : List (Instr × ReadOperand) :=
  [(.cpxImm k, .imm k), (.cpxZp b, .mem (.zp b)), (.cpxAbs w, .mem (.abs w))]

/-- The forms of CPY with their operands. -/
def cpyForms (k b : Byte) (w : Addr) : List (Instr × ReadOperand) :=
  [(.cpyImm k, .imm k), (.cpyZp b, .mem (.zp b)), (.cpyAbs w, .mem (.abs w))]

/-- The forms of BIT with their operands. -/
def bitForms (b : Byte) (w : Addr) : List (Instr × ReadOperand) :=
  [(.bitZp b, .mem (.zp b)), (.bitAbs w, .mem (.abs w))]

/-- The forms of STA with their operands. -/
def staForms (b : Byte) (w : Addr) : List (Instr × MemOperand) :=
  [(.staIndx b, .indx b), (.staZp b, .zp b), (.staAbs w, .abs w), (.staIndy b, .indy b),
   (.staZpx b, .zpx b), (.staAbsy w, .absy w), (.staAbsx w, .absx w)]

/-- The forms of STX with their operands. -/
def stxForms (b : Byte) (w : Addr) : List (Instr × MemOperand) :=
  [(.stxZp b, .zp b), (.stxAbs w, .abs w), (.stxZpy b, .zpy b)]

/-- The forms of STY with their operands. -/
def styForms (b : Byte) (w : Addr) : List (Instr × MemOperand) :=
  [(.styZp b, .zp b), (.styAbs w, .abs w), (.styZpx b, .zpx b)]

/-- The memory forms of INC with their operands. -/
def incForms (b : Byte) (w : Addr) : List (Instr × MemOperand) :=
  [(.incZp b, .zp b), (.incAbs w, .abs w), (.incZpx b, .zpx b), (.incAbsx w, .absx w)]

/-- The memory forms of DEC with their operands. -/
def decForms (b : Byte) (w : Addr) : List (Instr × MemOperand) :=
  [(.decZp b, .zp b), (.decAbs w, .abs w), (.decZpx b, .zpx b), (.decAbsx w, .absx w)]

/-- The memory forms of ASL with their operands. -/
def aslForms (b : Byte) (w : Addr) : List (Instr × MemOperand) :=
  [(.aslZp b, .zp b), (.aslAbs w, .abs w), (.aslZpx b, .zpx b), (.aslAbsx w, .absx w)]

/-- The memory forms of LSR with their operands. -/
def lsrForms (b : Byte) (w : Addr) : List (Instr × MemOperand) :=
  [(.lsrZp b, .zp b), (.lsrAbs w, .abs w), (.lsrZpx b, .zpx b), (.lsrAbsx w, .absx w)]

/-- The memory forms of ROL with their operands. -/
def rolForms (b : Byte) (w : Addr) : List (Instr × MemOperand) :=
  [(.rolZp b, .zp b), (.rolAbs w, .abs w), (.rolZpx b, .zpx b), (.rolAbsx w, .absx w)]

/-- The memory forms of ROR with their operands. -/
def rorForms (b : Byte) (w : Addr) : List (Instr × MemOperand) :=
  [(.rorZp b, .zp b), (.rorAbs w, .abs w), (.rorZpx b, .zpx b), (.rorAbsx w, .absx w)]

/-- The unimplemented opcodes with OPLEN 0 (30_encoding.md R87). -/
def sentinels0 : List Byte :=
  [0x02, 0x12, 0x1A, 0x22, 0x32, 0x3A, 0x42, 0x52, 0x5A, 0x62, 0x72, 0x7A, 0x92, 0xB2,
   0xD2, 0xDA, 0xF2, 0xFA]

/-- The unimplemented opcodes with OPLEN 1 (30_encoding.md R87). -/
def sentinels1 : List Byte :=
  [0x03, 0x04, 0x07, 0x0B, 0x13, 0x14, 0x17, 0x23, 0x27, 0x2B, 0x33, 0x34, 0x37, 0x43,
   0x44, 0x47, 0x4B, 0x53, 0x54, 0x57, 0x63, 0x64, 0x67, 0x6B, 0x73, 0x74, 0x77, 0x80,
   0x82, 0x83, 0x87, 0x89, 0x8B, 0x93, 0x97, 0xA3, 0xA7, 0xAB, 0xB3, 0xB7, 0xC2, 0xC3,
   0xC7, 0xCB, 0xD3, 0xD4, 0xD7, 0xE2, 0xE3, 0xE7, 0xEB, 0xF3, 0xF4, 0xF7]

/-- The unimplemented opcodes with OPLEN 2 (30_encoding.md R87). -/
def sentinels2 : List Byte :=
  [0x0C, 0x0F, 0x1B, 0x1C, 0x1F, 0x2F, 0x3B, 0x3C, 0x3F, 0x4F, 0x5B, 0x5C, 0x5F, 0x6F,
   0x7B, 0x7C, 0x7F, 0x8F, 0x9B, 0x9C, 0x9E, 0x9F, 0xAF, 0xBB, 0xBF, 0xCF, 0xDB, 0xDC,
   0xDF, 0xEF, 0xFB, 0xFC, 0xFF]

/-- The 105 unimplemented opcodes with their operand lengths. -/
def sentinelLengths : List (Byte × Nat) :=
  sentinels0.map (fun op => (op, 0)) ++ sentinels1.map (fun op => (op, 1)) ++ sentinels2.map (fun op => (op, 2))

/-- The forms of a read-class instruction have these opcode bytes, and each whose effective address is unmapped raises
UnmappedAddress of it, with none of the instruction's effects. -/
def ReadForms (forms : Byte → Byte → Addr → List (Instr × ReadOperand)) (opcodes : List Byte) : Prop :=
  ∀ (s : State) (k b : Byte) (w : Addr),
    (forms k b w).map (fun io => (encode io.1).head?) = opcodes.map some ∧
    ∀ io ∈ forms k b w, ∀ (m : MemOperand) (ea : Addr), io.2 = .mem m → m.ea s = .ok ea → s.decodeAddr ea = none →
      exec io.1 s = .next (errorTaken io.1 (.unmappedAddress ea) (s.params.busError == .skip) s)

/-- The memory forms of a store or a read-modify-write instruction have these opcode bytes, and each whose effective address
is unmapped raises UnmappedAddress of it, with none of the instruction's effects. -/
def MemForms (forms : Byte → Addr → List (Instr × MemOperand)) (opcodes : List Byte) : Prop :=
  ∀ (s : State) (b : Byte) (w : Addr),
    (forms b w).map (fun io => (encode io.1).head?) = opcodes.map some ∧
    ∀ io ∈ forms b w, ∀ ea : Addr, io.2.ea s = .ok ea → s.decodeAddr ea = none →
      exec io.1 s = .next (errorTaken io.1 (.unmappedAddress ea) (s.params.busError == .skip) s)

/-- The conditional branches with their conditions (45_control_transfer.md R211 to R218). -/
def branchForms (off : Byte) (p : Flags) : List (Instr × Bool) :=
  [(.bcc off, !p.c), (.bcs off, p.c), (.beq off, p.z), (.bmi off, p.n), (.bne off, !p.z), (.bpl off, !p.n),
   (.bvc off, !p.v), (.bvs off, p.v)]

/-! ## What no instruction reads -/

/-- Two states agree on everything an instruction can read: they may differ in the stored Reserved and Break flags, the
counters, the records and the credit only. -/
def Alike (s t : State) : Prop :=
  { s with p := { s.p with r := t.p.r, b := t.p.b }, cycles := t.cycles, faults := t.faults, credit := t.credit } = t

end Sys2Proof.Claim

open Sys2Proof Sys2Proof.Machine Sys2Proof.Claim

/-! ## Loads, stores and transfers -/

/-- 41_load_store_transfer.md R140: LDA puts its operand in A and sets Z and N from it through setNZload, in every form,
and changes nothing else.
The clauses before it are the rule's opcode bytes, by form, and its UnmappedAddress exception. -/
def Obligations.LdaLoadsAccumulator : Prop :=
  ReadForms ldaForms [0xA1, 0xA5, 0xA9, 0xAD, 0xB1, 0xB5, 0xB9, 0xBD] ∧
  ∀ (s : State) (k b v : Byte) (w : Addr), ∀ io ∈ ldaForms k b w, Operand s io.2 v →
    exec io.1 s = .next { after io.1 s with a := v, p := withNZLoad s v s.p }

/-- 41_load_store_transfer.md R141, R142: LDX and LDY, in every form.
The clauses before it are the rules' opcode bytes, by form, and their UnmappedAddress exceptions. -/
def Obligations.LdxLdyLoadIndexRegisters : Prop :=
  ReadForms ldxForms [0xA2, 0xA6, 0xAE, 0xB6, 0xBE] ∧
  ReadForms ldyForms [0xA0, 0xA4, 0xAC, 0xB4, 0xBC] ∧
  (∀ (s : State) (k b v : Byte) (w : Addr), ∀ io ∈ ldxForms k b w, Operand s io.2 v →
    exec io.1 s = .next { after io.1 s with x := v, p := withNZLoad s v s.p }) ∧
  (∀ (s : State) (k b v : Byte) (w : Addr), ∀ io ∈ ldyForms k b w, Operand s io.2 v →
    exec io.1 s = .next { after io.1 s with y := v, p := withNZLoad s v s.p })

/-- 41_load_store_transfer.md R143: STA stores A at its effective address, in every form, where that is mapped; every
address that reaches the stored byte reads A, every other address reads as before, and nothing else changes.
The clauses before it are the rule's opcode bytes, by form, and its UnmappedAddress exception. -/
def Obligations.StaStoresAccumulator : Prop :=
  MemForms staForms [0x81, 0x85, 0x8D, 0x91, 0x95, 0x99, 0x9D] ∧
  ∀ (s : State) (b : Byte) (w ea : Addr), ∀ io ∈ staForms b w, io.2.ea s = .ok ea → s.decodeAddr ea ≠ none →
    ∃ t, exec io.1 s = .next t ∧ { t with mem := s.mem } = after io.1 s ∧ CpuStored s t ea s.a

/-- 41_load_store_transfer.md R144, R145: STX and STY, in every form.
The clauses before it are the rules' opcode bytes, by form, and their UnmappedAddress exceptions. -/
def Obligations.StxStyStoreIndexRegisters : Prop :=
  MemForms stxForms [0x86, 0x8E, 0x96] ∧
  MemForms styForms [0x84, 0x8C, 0x94] ∧
  (∀ (s : State) (b : Byte) (w ea : Addr), ∀ io ∈ stxForms b w, io.2.ea s = .ok ea → s.decodeAddr ea ≠ none →
    ∃ t, exec io.1 s = .next t ∧ { t with mem := s.mem } = after io.1 s ∧ CpuStored s t ea s.x) ∧
  (∀ (s : State) (b : Byte) (w ea : Addr), ∀ io ∈ styForms b w, io.2.ea s = .ok ea → s.decodeAddr ea ≠ none →
    ∃ t, exec io.1 s = .next t ∧ { t with mem := s.mem } = after io.1 s ∧ CpuStored s t ea s.y)

/-- 41_load_store_transfer.md R146 to R151: the six transfers copy one register; all but TXS set Z and N through setNZ;
nothing else changes.
The clause before it is the rules' encodings. -/
def Obligations.TransfersCopyOneRegister : Prop :=
  [encode .tax, encode .tay, encode .txa, encode .tya, encode .tsx, encode .txs] =
    [[0xAA], [0xA8], [0x8A], [0x98], [0xBA], [0x9A]] ∧
  ∀ s : State,
    exec .tax s = .next { after .tax s with x := s.a, p := withNZ s s.a s.p } ∧
    exec .tay s = .next { after .tay s with y := s.a, p := withNZ s s.a s.p } ∧
    exec .txa s = .next { after .txa s with a := s.x, p := withNZ s s.x s.p } ∧
    exec .tya s = .next { after .tya s with a := s.y, p := withNZ s s.y s.p } ∧
    exec .tsx s = .next { after .tsx s with x := s.sp, p := withNZ s s.sp s.p } ∧
    exec .txs s = .next { after .txs s with sp := s.x }

/-! ## Stack -/

/-- 42_stack.md R160, R161: PHA stores A, and PHP the flags with bits 5 and 4 set, at the byte SP designates; SP is
decremented modulo 256, no flag is written, every other byte reads as before.
The clause before it is the rules' encodings. -/
def Obligations.PhaPhpPushOneByte : Prop :=
  encode .pha = [0x48] ∧ encode .php = [0x08] ∧
  ∀ s : State,
    (∃ t, exec .pha s = .next t ∧ { t with mem := s.mem } = { after .pha s with sp := s.sp - 1 } ∧
      ReadsAfter s t [(stackAt s s.sp, s.a)]) ∧
    (∃ t, exec .php s = .next t ∧ { t with mem := s.mem } = { after .php s with sp := s.sp - 1 } ∧
      ReadsAfter s t [(stackAt s s.sp, pushedByte s.p)])

/-- 42_stack.md R162: PLA increments SP modulo 256 and puts the byte it then designates in A, with setNZ.
The clause before it is the rule's encoding. -/
def Obligations.PlaPullsAccumulator : Prop :=
  encode .pla = [0x68] ∧
  ∀ s : State, ∃ v, memRead s (stackAt s (s.sp + 1)) = .ok v ∧
    exec .pla s = .next { after .pla s with a := v, sp := s.sp + 1, p := withNZ s v s.p }

/-- 42_stack.md R163: PLP increments SP modulo 256 and restores N, V, D, I, Z and C, whatever SET_ONLY_FLAGS holds; the
stored B and R are not written.
The clause before it is the rule's encoding. -/
def Obligations.PlpRestoresSixFlags : Prop :=
  encode .plp = [0x28] ∧
  ∀ s : State, ∃ v, memRead s (stackAt s (s.sp + 1)) = .ok v ∧
    exec .plp s = .next { after .plp s with sp := s.sp + 1, p := pulledFlags v s.p }

/-- 20_memory.md R57, R58, R13: a push writes the designated byte and then decrements SP, a pull increments it and then
reads; both succeed in every state, and a pull after a push answers the byte pushed and restores SP. -/
def Obligations.PushAndPullNeverRaise : Prop :=
  ∀ (s : State) (v : Byte),
    (∃ t, push v s = .ok t ∧ { t with mem := s.mem } = { s with sp := s.sp - 1 } ∧
      ReadsAfter s t [(stackAt s s.sp, v)] ∧ pull t = .ok (v, { t with sp := s.sp })) ∧
    (∃ u, memRead s (stackAt s (s.sp + 1)) = .ok u ∧ pull s = .ok (u, { s with sp := s.sp + 1 }))

/-! ## ALU -/

/-- 43_alu.md R173 with R170: ADC puts A + M + C modulo 256 in A; C is the unsigned carry out; V is set when A and M share a
sign that the result lacks, which is when their signed sum with the carry is outside [-128, 127]; Z and N are from the
result. With D = 1 under DECIMAL_POLICY = fault (R171) it raises UnimplementedOpcode of its own opcode and address instead,
with none of its effects, and UNIMPL_POLICY decides between the halt and the skip (logs 16 and 17). Every form.
The clauses before it are the rule's opcode bytes, by form, and its UnmappedAddress exception. -/
def Obligations.AdcAddsWithCarry : Prop :=
  ReadForms adcForms [0x61, 0x65, 0x69, 0x6D, 0x71, 0x75, 0x79, 0x7D] ∧
  ∀ (s : State) (k b m : Byte) (w : Addr), ∀ io ∈ adcForms k b w, Operand s io.2 m →
    (s.p.d = true → s.params.decimal = .fault →
      exec io.1 s = .next (errorTaken io.1 (.unimplementedOpcode io.1.opcode s.pc) (s.params.unimpl == .skip) s)) ∧
    (¬ (s.p.d = true ∧ s.params.decimal = .fault) →
      let total := s.a.toNat + m.toNat + bit s.p.c
      let r : Byte := BitVec.ofNat 8 total
      let v := decide (s.a.msb = m.msb ∧ r.msb ≠ s.a.msb)
      exec io.1 s = .next { after io.1 s with a := r, p := withSum s (decide (256 ≤ total)) v r s.p } ∧
      (v = true ↔ s.a.toInt + m.toInt + bit s.p.c < -128 ∨ 127 < s.a.toInt + m.toInt + bit s.p.c))

/-- 43_alu.md R174: SBC puts A - M - (1 - C) modulo 256 in A, with C = 1 exactly when that difference is not negative; V is
set when the signed difference is outside [-128, 127]; Z and N are from the result. With D = 1 under DECIMAL_POLICY = fault
(R171) it raises UnimplementedOpcode as ADC does (logs 16 and 17). Every form.
The clauses before it are the rule's opcode bytes, by form, and its UnmappedAddress exception. -/
def Obligations.SbcSubtractsWithBorrow : Prop :=
  ReadForms sbcForms [0xE1, 0xE5, 0xE9, 0xED, 0xF1, 0xF5, 0xF9, 0xFD] ∧
  ∀ (s : State) (k b m : Byte) (w : Addr), ∀ io ∈ sbcForms k b w, Operand s io.2 m →
    (s.p.d = true → s.params.decimal = .fault →
      exec io.1 s = .next (errorTaken io.1 (.unimplementedOpcode io.1.opcode s.pc) (s.params.unimpl == .skip) s)) ∧
    (¬ (s.p.d = true ∧ s.params.decimal = .fault) →
      let diff : Int := (s.a.toNat : Int) - m.toNat - (1 - bit s.p.c)
      let sdiff : Int := s.a.toInt - m.toInt - (1 - bit s.p.c)
      let r : Byte := BitVec.ofInt 8 diff
      exec io.1 s = .next { after io.1 s with
        a := r
        p := withSum s (decide (0 ≤ diff)) (decide (sdiff < -128 ∨ 127 < sdiff)) r s.p })

/-- 43_alu.md R175, R176, R177: AND, ORA and EOR, bit by bit, with setNZ of the result, in every form.
The clauses before it are the rules' opcode bytes, by form, and their UnmappedAddress exceptions. -/
def Obligations.LogicActsOnAccumulator : Prop :=
  ReadForms andForms [0x21, 0x25, 0x29, 0x2D, 0x31, 0x35, 0x39, 0x3D] ∧
  ReadForms oraForms [0x01, 0x05, 0x09, 0x0D, 0x11, 0x15, 0x19, 0x1D] ∧
  ReadForms eorForms [0x41, 0x45, 0x49, 0x4D, 0x51, 0x55, 0x59, 0x5D] ∧
  (∀ (s : State) (k b m : Byte) (w : Addr), ∀ io ∈ andForms k b w, Operand s io.2 m →
    exec io.1 s = .next { after io.1 s with a := s.a &&& m, p := withNZ s (s.a &&& m) s.p }) ∧
  (∀ (s : State) (k b m : Byte) (w : Addr), ∀ io ∈ oraForms k b w, Operand s io.2 m →
    exec io.1 s = .next { after io.1 s with a := s.a ||| m, p := withNZ s (s.a ||| m) s.p }) ∧
  (∀ (s : State) (k b m : Byte) (w : Addr), ∀ io ∈ eorForms k b w, Operand s io.2 m →
    exec io.1 s = .next { after io.1 s with a := s.a ^^^ m, p := withNZ s (s.a ^^^ m) s.p })

/-- 43_alu.md R178, R179, R180 with R172: CMP, CPX and CPY write Z, N and C from the difference, and nothing else.
The clauses before it are the rules' opcode bytes, by form, and their UnmappedAddress exceptions. -/
def Obligations.ComparesWriteFlagsOnly : Prop :=
  ReadForms cmpForms [0xC1, 0xC5, 0xC9, 0xCD, 0xD1, 0xD5, 0xD9, 0xDD] ∧
  ReadForms cpxForms [0xE0, 0xE4, 0xEC] ∧
  ReadForms cpyForms [0xC0, 0xC4, 0xCC] ∧
  (∀ (s : State) (k b m : Byte) (w : Addr), ∀ io ∈ cmpForms k b w, Operand s io.2 m →
    exec io.1 s = .next { after io.1 s with p := withCompare s s.a m s.p }) ∧
  (∀ (s : State) (k b m : Byte) (w : Addr), ∀ io ∈ cpxForms k b w, Operand s io.2 m →
    exec io.1 s = .next { after io.1 s with p := withCompare s s.x m s.p }) ∧
  (∀ (s : State) (k b m : Byte) (w : Addr), ∀ io ∈ cpyForms k b w, Operand s io.2 m →
    exec io.1 s = .next { after io.1 s with p := withCompare s s.y m s.p })

/-- 43_alu.md R181: BIT sets Z from A and M, and N and V from bits 7 and 6 of M, and nothing else.
The clauses before it are the rule's opcode bytes, by form, and its UnmappedAddress exception. -/
def Obligations.BitTestsOperandBits : Prop :=
  ReadForms (fun _ b w => bitForms b w) [0x24, 0x2C] ∧
  ∀ (s : State) (b m : Byte) (w : Addr), ∀ io ∈ bitForms b w, Operand s io.2 m →
    exec io.1 s = .next { after io.1 s with
      p := { s.p with
        z := flag s.params.setOnly.z (decide ((s.a &&& m).toNat = 0)) s.p.z
        n := flag s.params.setOnly.n (decide (m.toNat / 128 % 2 = 1)) s.p.n
        v := flag s.params.setOnly.v (decide (m.toNat / 64 % 2 = 1)) s.p.v } }

/-! ## Increment, decrement, shift and rotate -/

/-- 44_inc_dec_shift.md R191, R192: INC and DEC read the byte at their effective address and write it plus or minus one
modulo 256 to the same address, with setNZ of the result (written even when CART_CPU_WRITE drops the store).
The clauses before it are the rules' opcode bytes, by form, and their UnmappedAddress exceptions. -/
def Obligations.IncDecModifyMemory : Prop :=
  MemForms incForms [0xE6, 0xEE, 0xF6, 0xFE] ∧
  MemForms decForms [0xC6, 0xCE, 0xD6, 0xDE] ∧
  (∀ (s : State) (b v : Byte) (w ea : Addr), ∀ io ∈ incForms b w, io.2.ea s = .ok ea → memRead s ea = .ok v →
    ∃ t, exec io.1 s = .next t ∧ { t with mem := s.mem } = { after io.1 s with p := withNZ s (v + 1) s.p } ∧
      CpuStored s t ea (v + 1)) ∧
  (∀ (s : State) (b v : Byte) (w ea : Addr), ∀ io ∈ decForms b w, io.2.ea s = .ok ea → memRead s ea = .ok v →
    ∃ t, exec io.1 s = .next t ∧ { t with mem := s.mem } = { after io.1 s with p := withNZ s (v - 1) s.p } ∧
      CpuStored s t ea (v - 1))

/-- 44_inc_dec_shift.md R193 to R196: INX, INY, DEX and DEY.
The clause before it is the rules' encodings. -/
def Obligations.IncDecIndexRegisters : Prop :=
  [encode .inx, encode .iny, encode .dex, encode .dey] = [[0xE8], [0xC8], [0xCA], [0x88]] ∧
  ∀ s : State,
    exec .inx s = .next { after .inx s with x := s.x + 1, p := withNZ s (s.x + 1) s.p } ∧
    exec .iny s = .next { after .iny s with y := s.y + 1, p := withNZ s (s.y + 1) s.p } ∧
    exec .dex s = .next { after .dex s with x := s.x - 1, p := withNZ s (s.x - 1) s.p } ∧
    exec .dey s = .next { after .dey s with y := s.y - 1, p := withNZ s (s.y - 1) s.p }

/-- 44_inc_dec_shift.md R197, R198 with R190: ASL doubles the byte modulo 256 and moves old bit 7 to C, LSR halves it and
moves old bit 0 to C, in the accumulator and in memory.
The clauses before it are the rules' opcode bytes, by form, and their UnmappedAddress exceptions. -/
def Obligations.ShiftsMoveABitToCarry : Prop :=
  encode .aslAcc = [0x0A] ∧ encode .lsrAcc = [0x4A] ∧
  MemForms aslForms [0x06, 0x0E, 0x16, 0x1E] ∧
  MemForms lsrForms [0x46, 0x4E, 0x56, 0x5E] ∧
  (∀ s : State,
    let r : Byte := BitVec.ofNat 8 (2 * s.a.toNat)
    exec .aslAcc s = .next { after .aslAcc s with a := r, p := withCNZ s (decide (128 ≤ s.a.toNat)) r s.p }) ∧
  (∀ s : State,
    let r : Byte := BitVec.ofNat 8 (s.a.toNat / 2)
    exec .lsrAcc s = .next { after .lsrAcc s with a := r, p := withCNZ s (decide (s.a.toNat % 2 = 1)) r s.p }) ∧
  (∀ (s : State) (b v : Byte) (w ea : Addr), ∀ io ∈ aslForms b w, io.2.ea s = .ok ea → memRead s ea = .ok v →
    let r : Byte := BitVec.ofNat 8 (2 * v.toNat)
    ∃ t, exec io.1 s = .next t ∧
      { t with mem := s.mem } = { after io.1 s with p := withCNZ s (decide (128 ≤ v.toNat)) r s.p } ∧
      CpuStored s t ea r) ∧
  (∀ (s : State) (b v : Byte) (w ea : Addr), ∀ io ∈ lsrForms b w, io.2.ea s = .ok ea → memRead s ea = .ok v →
    let r : Byte := BitVec.ofNat 8 (v.toNat / 2)
    ∃ t, exec io.1 s = .next t ∧
      { t with mem := s.mem } = { after io.1 s with p := withCNZ s (decide (v.toNat % 2 = 1)) r s.p } ∧
      CpuStored s t ea r)

/-- 44_inc_dec_shift.md R199, R200 with R190: ROL and ROR shift the old carry in and the bit that leaves to C, in the
accumulator and in memory.
The clauses before it are the rules' opcode bytes, by form, and their UnmappedAddress exceptions. -/
def Obligations.RotatesPassThroughCarry : Prop :=
  encode .rolAcc = [0x2A] ∧ encode .rorAcc = [0x6A] ∧
  MemForms rolForms [0x26, 0x2E, 0x36, 0x3E] ∧
  MemForms rorForms [0x66, 0x6E, 0x76, 0x7E] ∧
  (∀ s : State,
    let r : Byte := BitVec.ofNat 8 (2 * s.a.toNat + bit s.p.c)
    exec .rolAcc s = .next { after .rolAcc s with a := r, p := withCNZ s (decide (128 ≤ s.a.toNat)) r s.p }) ∧
  (∀ s : State,
    let r : Byte := BitVec.ofNat 8 (s.a.toNat / 2 + 128 * bit s.p.c)
    exec .rorAcc s = .next { after .rorAcc s with a := r, p := withCNZ s (decide (s.a.toNat % 2 = 1)) r s.p }) ∧
  (∀ (s : State) (b v : Byte) (w ea : Addr), ∀ io ∈ rolForms b w, io.2.ea s = .ok ea → memRead s ea = .ok v →
    let r : Byte := BitVec.ofNat 8 (2 * v.toNat + bit s.p.c)
    ∃ t, exec io.1 s = .next t ∧
      { t with mem := s.mem } = { after io.1 s with p := withCNZ s (decide (128 ≤ v.toNat)) r s.p } ∧
      CpuStored s t ea r) ∧
  (∀ (s : State) (b v : Byte) (w ea : Addr), ∀ io ∈ rorForms b w, io.2.ea s = .ok ea → memRead s ea = .ok v →
    let r : Byte := BitVec.ofNat 8 (v.toNat / 2 + 128 * bit s.p.c)
    ∃ t, exec io.1 s = .next t ∧
      { t with mem := s.mem } = { after io.1 s with p := withCNZ s (decide (v.toNat % 2 = 1)) r s.p } ∧
      CpuStored s t ea r)

/-! ## Control transfer -/

/-- 45_control_transfer.md R210 to R218, 40_step_and_addressing.md R118: a taken branch goes to the address after it plus
its signed offset, modulo 2^16; one not taken goes on; nothing else changes.
The clause before it is the rules' encodings. -/
def Obligations.BranchesAddOffsetAfterAdvance : Prop :=
  (∀ (off : Byte) (p : Flags), (branchForms off p).map (fun ic => encode ic.1) =
    [[0x90, off], [0xB0, off], [0xF0, off], [0x30, off], [0xD0, off], [0x10, off], [0x50, off], [0x70, off]]) ∧
  ∀ (s : State) (off : Byte), ∀ ic ∈ branchForms off s.p,
    exec ic.1 s = .next { after ic.1 s with
      pc := if ic.2 then BitVec.ofInt 16 ((s.pc.toNat : Int) + 2 + off.toInt) else s.pc + 2 }

/-- 45_control_transfer.md R219, 40_step_and_addressing.md R115: JMP goes to its address, or to the address held at its
pointer, whose high byte is read from the same page under JMP_IND_PAGE_WRAP and from the next address otherwise; JMP (ind)
raises UnmappedAddress of the first unmapped pointer byte and, without JMP_IND_PAGE_WRAP, OutOfBoundsAccess(0xFFFF, 2) at
0xFFFF.
The clause before it is the rules' encodings. -/
def Obligations.JmpReplacesProgramCounter : Prop :=
  (∀ b1 b2 : Byte, encode (.jmpAbs (word b2 b1)) = [0x4C, b1, b2] ∧ encode (.jmpInd (word b2 b1)) = [0x6C, b1, b2]) ∧
  ∀ (s : State) (w : Addr),
    let hiAddr := if s.params.jmpIndPageWrap then BitVec.ofNat 16 (256 * (w.toNat / 256) + (w.toNat + 1) % 256) else w + 1
    let skip := s.params.busError == .skip
    exec (.jmpAbs w) s = .next { after (.jmpAbs w) s with pc := w } ∧
    (∀ lo hi : Byte, s.params.jmpIndPageWrap = true ∨ w ≠ 0xFFFF → memRead s w = .ok lo → memRead s hiAddr = .ok hi →
      exec (.jmpInd w) s = .next { after (.jmpInd w) s with pc := word hi lo }) ∧
    (s.params.jmpIndPageWrap = false → w = 0xFFFF →
      exec (.jmpInd w) s = .next (errorTaken (.jmpInd w) (.outOfBoundsAccess 0xFFFF 2) skip s)) ∧
    (s.decodeAddr w = none →
      exec (.jmpInd w) s = .next (errorTaken (.jmpInd w) (.unmappedAddress w) skip s)) ∧
    (s.params.jmpIndPageWrap = true ∨ w ≠ 0xFFFF → s.decodeAddr w ≠ none → s.decodeAddr hiAddr = none →
      exec (.jmpInd w) s = .next (errorTaken (.jmpInd w) (.unmappedAddress hiAddr) skip s))

/-- 45_control_transfer.md R220: JSR pushes the address of its last byte, high byte first, and goes to its target.
The clause before it is the rule's encoding. -/
def Obligations.JsrPushesReturnAddress : Prop :=
  (∀ b1 b2 : Byte, encode (.jsr (word b2 b1)) = [0x20, b1, b2]) ∧
  ∀ (s : State) (w : Addr), ∃ t, exec (.jsr w) s = .next t ∧
    { t with mem := s.mem } = { after (.jsr w) s with sp := s.sp - 2, pc := w } ∧
    ReadsAfter s t
      [(stackAt s (s.sp - 1), BitVec.ofNat 8 ((s.pc + 2).toNat % 256)),
       (stackAt s s.sp, BitVec.ofNat 8 ((s.pc + 2).toNat / 256))]

/-- 45_control_transfer.md R221: RTS pulls an address, low byte first, and goes to it plus one modulo 2^16.
The clause before it is the rule's encoding. -/
def Obligations.RtsReturnsPastPulledAddress : Prop :=
  encode .rts = [0x60] ∧
  ∀ s : State, ∃ lo hi, memRead s (stackAt s (s.sp + 1)) = .ok lo ∧ memRead s (stackAt s (s.sp + 2)) = .ok hi ∧
    exec .rts s = .next { after .rts s with sp := s.sp + 2, pc := word hi lo + 1 }

/-- 45_control_transfer.md R222, 60_exceptions.md R251: BRK pushes the return address `pc0 + 2`, high byte first, then the
flags with bits 5 and 4 set, sets I, and goes to the address at 0xFFFE, whatever its padding byte and whatever I holds.
The clause before it is the rule's encoding. -/
def Obligations.BrkEntersInterrupt : Prop :=
  (∀ pad : Byte, encode (.brk pad) = [0x00, pad]) ∧
  ∀ (s : State) (pad : Byte), ∃ t lo hi, exec (.brk pad) s = .next t ∧
    memRead s 0xFFFE = .ok lo ∧ memRead s 0xFFFF = .ok hi ∧
    { t with mem := s.mem } =
      { after (.brk pad) s with sp := s.sp - 3, p := { s.p with i := true }, pc := word hi lo } ∧
    ReadsAfter s t
      [(stackAt s (s.sp - 2), pushedByte s.p),
       (stackAt s (s.sp - 1), BitVec.ofNat 8 ((s.pc + 2).toNat % 256)),
       (stackAt s s.sp, BitVec.ofNat 8 ((s.pc + 2).toNat / 256))]

/-- 45_control_transfer.md R223: RTI pulls the flags (all but B and R) and then an address, low byte first, and goes to
it.
The clause before it is the rule's encoding. -/
def Obligations.RtiRestoresFlagsAndCounter : Prop :=
  encode .rti = [0x40] ∧
  ∀ s : State, ∃ v lo hi, memRead s (stackAt s (s.sp + 1)) = .ok v ∧ memRead s (stackAt s (s.sp + 2)) = .ok lo ∧
    memRead s (stackAt s (s.sp + 3)) = .ok hi ∧
    exec .rti s = .next { after .rti s with sp := s.sp + 3, p := pulledFlags v s.p, pc := word hi lo }

/-- 95_test_vectors.md S6, 45_control_transfer.md R221, R223: RTS after JSR lands at the instruction after the call, and RTI
after BRK two bytes past it, with SP and the flags as they were. -/
def Obligations.CallAndInterruptRoundTrips : Prop :=
  (∀ (s : State) (w : Addr), ∃ t u, exec (.jsr w) s = .next t ∧ exec .rts t = .next u ∧
    u.pc = s.pc + 3 ∧ u.sp = s.sp ∧ u.p = s.p) ∧
  (∀ (s : State) (pad : Byte), ∃ t u, exec (.brk pad) s = .next t ∧ exec .rti t = .next u ∧
    u.pc = s.pc + 2 ∧ u.sp = s.sp ∧ u.p = s.p)

/-! ## Flags and NOP -/

/-- 46_flags_nop.md R230 to R236: the seven flag instructions write their one flag, whatever SET_ONLY_FLAGS holds.
The clause before it is the rules' encodings. -/
def Obligations.FlagInstructionsForceOneFlag : Prop :=
  [encode .clc, encode .sec, encode .cli, encode .sei, encode .clv, encode .cld, encode .sed] =
    [[0x18], [0x38], [0x58], [0x78], [0xB8], [0xD8], [0xF8]] ∧
  ∀ s : State,
    exec .clc s = .next { after .clc s with p := { s.p with c := false } } ∧
    exec .sec s = .next { after .sec s with p := { s.p with c := true } } ∧
    exec .cli s = .next { after .cli s with p := { s.p with i := false } } ∧
    exec .sei s = .next { after .sei s with p := { s.p with i := true } } ∧
    exec .clv s = .next { after .clv s with p := { s.p with v := false } } ∧
    exec .cld s = .next { after .cld s with p := { s.p with d := false } } ∧
    exec .sed s = .next { after .sed s with p := { s.p with d := true } }

/-- 46_flags_nop.md R237: NOP changes nothing but PC and `cycles`.
The clause before it is the rule's encoding. -/
def Obligations.NopOnlyAdvances : Prop := encode .nop = [0xEA] ∧ ∀ s : State, exec .nop s = .next (after .nop s)

/-! ## Who writes what -/

/-- 10_state.md R21, R22: an instruction writes no flag that the table of writers does not give it. -/
def Obligations.FlagsChangeOnlyByTheirWriters : Prop :=
  ∀ (i : Instr) (s t : State), exec i s = .next t →
    (i.mnemonic ∉ [.adc, .sbc, .and, .ora, .eor, .cmp, .cpx, .cpy, .bit, .lda, .ldx, .ldy, .tax, .tay, .txa, .tya, .tsx,
        .pla, .inc, .dec, .inx, .iny, .dex, .dey, .asl, .lsr, .rol, .ror, .plp, .rti] →
      t.p.n = s.p.n ∧ t.p.z = s.p.z) ∧
    (i.mnemonic ∉ [.adc, .sbc, .bit, .clv, .plp, .rti] → t.p.v = s.p.v) ∧
    (i.mnemonic ∉ [.adc, .sbc, .cmp, .cpx, .cpy, .asl, .lsr, .rol, .ror, .clc, .sec, .plp, .rti] → t.p.c = s.p.c) ∧
    (i.mnemonic ∉ [.sed, .cld, .plp, .rti] → t.p.d = s.p.d) ∧
    (i.mnemonic ∉ [.sei, .cli, .brk, .plp, .rti] → t.p.i = s.p.i)

/-- 10_state.md R10 to R13, 40_step_and_addressing.md R122: an instruction changes a register only when it is one of that
register's writers, and memory only when it stores, modifies memory or pushes. -/
def Obligations.RegistersAndMemoryChangeOnlyByTheirWriters : Prop :=
  ∀ (i : Instr) (s t : State), exec i s = .next t →
    (i.mnemonic ∉ [.lda, .txa, .tya, .pla, .adc, .sbc, .and, .ora, .eor] → i.mode ≠ .acc → t.a = s.a) ∧
    (i.mnemonic ∉ [.ldx, .tax, .tsx, .inx, .dex] → t.x = s.x) ∧
    (i.mnemonic ∉ [.ldy, .tay, .iny, .dey] → t.y = s.y) ∧
    (i.mnemonic ∉ [.txs, .pha, .php, .pla, .plp, .jsr, .rts, .brk, .rti] → t.sp = s.sp) ∧
    (i.cls ≠ .store → i.cls ≠ .readModifyWrite → i.mnemonic ∉ [.pha, .php, .jsr, .brk] → t.mem = s.mem)

/-! ## Operands and errors -/

/-- 40_step_and_addressing.md R111 to R114, R116, R117: the effective address of every memory mode; page zero is mapped, so
that every mode has one, in every state. -/
def Obligations.EffectiveAddressesByMode : Prop :=
  ∀ (s : State) (b lo hi : Byte) (w : Addr),
    (∀ n, s.decodeAddr (zp n) ≠ none) ∧ (∀ m : MemOperand, ∃ ea, m.ea s = .ok ea) ∧
    (MemOperand.zp b).ea s = .ok (zp b.toNat) ∧
    (MemOperand.zpx b).ea s = .ok (zp (b.toNat + s.x.toNat)) ∧
    (MemOperand.zpy b).ea s = .ok (zp (b.toNat + s.y.toNat)) ∧
    (MemOperand.abs w).ea s = .ok w ∧
    (MemOperand.absx w).ea s = .ok (BitVec.ofNat 16 (w.toNat + s.x.toNat)) ∧
    (MemOperand.absy w).ea s = .ok (BitVec.ofNat 16 (w.toNat + s.y.toNat)) ∧
    (s.params.indxPostIndex = false → memRead s (zp (b.toNat + s.x.toNat)) = .ok lo →
      memRead s (zp (b.toNat + s.x.toNat + 1)) = .ok hi → (MemOperand.indx b).ea s = .ok (word hi lo)) ∧
    (s.params.indxPostIndex = true → memRead s (zp b.toNat) = .ok lo → memRead s (zp (b.toNat + 1)) = .ok hi →
      (MemOperand.indx b).ea s = .ok (BitVec.ofNat 16 ((word hi lo).toNat + s.x.toNat))) ∧
    (memRead s (zp b.toNat) = .ok lo → memRead s (zp (b.toNat + 1)) = .ok hi →
      (MemOperand.indy b).ea s = .ok (BitVec.ofNat 16 ((word hi lo).toNat + s.y.toNat)))

/-! ## The step -/

/-- 40_step_and_addressing.md R100: when the bytes at PC are an instruction's encoding, inside the space, the step of a
running machine is that instruction. -/
def Obligations.StepRunsDecodedInstruction : Prop :=
  ∀ (s : State) (i : Instr), s.run = .running → s.pc.toNat + (encode i).length ≤ 0x10000 →
    (∀ (k : Nat) (h : k < (encode i).length), memRead s (s.pc + BitVec.ofNat 16 k) = .ok ((encode i)[k]'h)) →
    step s = exec i s

/-- 40_step_and_addressing.md R100, 60_exceptions.md R241, R244, R245: the errors of phase F, in their order, halt whatever
the policies. -/
def Obligations.FetchErrorsHalt : Prop :=
  ∀ (s : State) (op : Byte), s.run = .running →
    (s.decodeAddr s.pc = none → step s = .next (fetchHalted (.unmappedAddress s.pc) none s)) ∧
    (memRead s s.pc = .ok op → 0xFFFF < s.pc.toNat + oplen op →
      step s = .next (fetchHalted (.outOfBoundsAccess s.pc (1 + oplen op)) (some op) s)) ∧
    (memRead s s.pc = .ok op → s.pc.toNat + oplen op ≤ 0xFFFF → 1 ≤ oplen op → s.decodeAddr (s.pc + 1) = none →
      step s = .next (fetchHalted (.unmappedAddress (s.pc + 1)) (some op) s)) ∧
    (memRead s s.pc = .ok op → s.pc.toNat + oplen op ≤ 0xFFFF → oplen op = 2 → s.decodeAddr (s.pc + 1) ≠ none →
      s.decodeAddr (s.pc + 2) = none → step s = .next (fetchHalted (.unmappedAddress (s.pc + 2)) (some op) s))

/-- 60_exceptions.md R242, R243 with 30_encoding.md R86, R87: each of the 105 unimplemented opcodes, once its operand bytes
are fetched, raises UnimplementedOpcode of itself and its address; UNIMPL_POLICY decides between the halt, with PC at the
opcode, and the skip by the table's length at the opcode's nominal cost; nothing else changes. -/
def Obligations.UnimplementedOpcodesReachSentinel : Prop :=
  ∀ (s : State), ∀ opn ∈ sentinelLengths, s.run = .running → memRead s s.pc = .ok opn.1 →
    s.pc.toNat + opn.2 ≤ 0xFFFF → (∀ k, 1 ≤ k → k ≤ opn.2 → s.decodeAddr (s.pc + BitVec.ofNat 16 k) ≠ none) →
    step s = .next
      (if s.params.unimpl = .skip then
        { s with
          faults := s.faults ++ [⟨.unimplementedOpcode opn.1 s.pc, s.pc, some opn.1⟩]
          pc := s.pc + 1 + BitVec.ofNat 16 opn.2
          cycles := s.cycles + nominalCost s.params opn.1 }
      else
        { s with
          faults := s.faults ++ [⟨.unimplementedOpcode opn.1 s.pc, s.pc, some opn.1⟩]
          run := .halted .unimplementedOpcode })

/-- 10_state.md R23, 60_exceptions.md R247, 70_reset_and_hazards.md R272: no step is taken in Halted or Reset. That `step`
answers a fault there is the model's form of it (log 6). -/
def Obligations.NoStepUnlessRunning : Prop :=
  ∀ (s : State) (k : ErrorKind),
    (s.run = .reset → step s = .fault .inReset) ∧ (s.run = .halted k → step s = .fault (.halted k))

/-- 40_step_and_addressing.md R100, R104, 60_exceptions.md section 1: a running machine always steps to a next state:
nothing it can hold in memory stops the model. -/
def Obligations.RunningMachineAlwaysSteps : Prop :=
  ∀ s : State, s.run = .running → ∃ t, step s = .next t

/-- 60_exceptions.md R241, R245, R246: a step either records nothing and stays Running, or appends exactly one record, of
the instruction at PC, and then it halts or skips that instruction with no other change. -/
def Obligations.ErrorsArePreciseAndRecordedOnce : Prop :=
  ∀ s t : State, step s = .next t →
    (t.faults = s.faults ∧ t.run = .running) ∨
    ∃ r : FaultRecord, r.pc = s.pc ∧ r.truthful s.params = true ∧
      (t = { s with faults := s.faults ++ [r], run := .halted r.kind } ∨
        ∃ op, memRead s s.pc = .ok op ∧ r.op = some op ∧
          t = { s with
            faults := s.faults ++ [r]
            pc := s.pc + 1 + BitVec.ofNat 16 (oplen op)
            cycles := s.cycles + nominalCost s.params op })

/-- 40_step_and_addressing.md R103, 10_state.md R24: a step that leaves the machine Running adds the nominal cost of the
opcode at PC, and a step that halts adds nothing. -/
def Obligations.CyclesAddNominalCost : Prop :=
  ∀ s t : State, step s = .next t →
    (t.run = .running → ∃ op, memRead s s.pc = .ok op ∧ t.cycles = s.cycles + nominalCost s.params op) ∧
    (t.run ≠ .running → t.cycles = s.cycles)

/-- 00_scope.md R3, 10_state.md R17, 60_exceptions.md R255: no step changes a parameter, the stored Reserved and Break
flags, or the scheduler's credit, and a step leaves the machine Running or Halted. -/
def Obligations.StepKeepsParametersAndStoredBits : Prop :=
  ∀ s t : State, step s = .next t →
    t.params = s.params ∧ t.credit = s.credit ∧ t.p.r = s.p.r ∧ t.p.b = s.p.b ∧ t.run ≠ .reset

/-- 10_state.md R17, R24, 70_reset_and_hazards.md R292: no step reads the stored Reserved and Break flags, the cycle counter,
the records or the credit: from two states that agree on the rest, a step leads to two states that agree on the rest. -/
def Obligations.UnreadStateIsInert : Prop :=
  ∀ s s' t : State, Alike s s' → step s = .next t → ∃ t', step s' = .next t' ∧ Alike t t'

/-- The invariant of the machine holds after reset. -/
def Obligations.ResetMeetsInvariant : Prop := State.reset.inv = true

/-- Every step keeps it: memory canonical, the stored Reserved and Break flags 0 (10_state.md R17), a halt recorded with PC
at the faulting instruction (60_exceptions.md R243, R244), every record truthful (R240). -/
def Obligations.StepKeepsInvariant : Prop :=
  ∀ s t : State, s.inv = true → step s = .next t → t.inv = true

/-! ## Encoding -/

/-- Decoding an encoded instruction gives it back, with the bytes after it (30_encoding.md R80, R83). -/
def Obligations.DecodeEncodeRoundTrip : Prop :=
  ∀ (i : Instr) (rest : List Byte), decode (encode i ++ rest) = .ok (i, rest)

/-- Bytes that decode are the encoding of what they decode to: no two encodings of an instruction, no bit ignored. -/
def Obligations.EncodeDecodeRoundTrip : Prop :=
  ∀ (bytes rest : List Byte) (i : Instr), decode bytes = .ok (i, rest) → bytes = encode i ++ rest

/-- 30_encoding.md R82, R88, 70_reset_and_hazards.md R283: for every opcode byte the dispatch entry and the length entry
agree: the instruction has that opcode, a form of the map, and OPLEN operand bytes; BRK has one and any other the count
of its mode. -/
def Obligations.LengthTableAgreesWithDispatch : Prop :=
  ∀ (op b1 b2 : Byte) (i : Instr), decodeOp op b1 b2 = some i →
    i.opcode = op ∧ i.mnemonic.opcode? i.mode = some op ∧ i.operands.length = oplen op ∧
      oplen op = (if i.mnemonic = .brk then 1 else i.mode.operandBytes)

/-- 30_encoding.md R86, R87: exactly the 105 listed opcodes have no instruction, and they have the listed lengths. -/
def Obligations.UnimplementedOpcodesAreListed : Prop :=
  sentinelLengths.length = 105 ∧
    ∀ op b1 b2 : Byte, (decodeOp op b1 b2 = none ↔ (op, oplen op) ∈ sentinelLengths)

/-- Words written out from the spec's encodings decode to the instructions they stand for (30_encoding.md R85;
95_test_vectors.md V1 to V7). -/
def Obligations.SpecWordsDecode : Prop :=
  decode [0xA9, 0x42] = .ok (.ldaImm 0x42, []) ∧ decode [0x8D, 0x00, 0x08] = .ok (.staAbs 0x0800, []) ∧
  decode [0xB6, 0xFF] = .ok (.ldxZpy 0xFF, []) ∧ decode [0x48] = .ok (.pha, []) ∧
  decode [0x79, 0x00, 0x03] = .ok (.adcAbsy 0x0300, []) ∧ decode [0x7E, 0x00, 0x03] = .ok (.rorAbsx 0x0300, []) ∧
  decode [0xD0, 0x05] = .ok (.bne 0x05, []) ∧ decode [0x6C, 0xFF, 0x02] = .ok (.jmpInd 0x02FF, []) ∧
  decode [0x00, 0xEA] = .ok (.brk 0xEA, []) ∧ decode [0x20, 0x00, 0xD0] = .ok (.jsr 0xD000, []) ∧
  decode [0xF8] = .ok (.sed, []) ∧ decode [0x02] = .error (.unimplemented 0x02)

/-- The assembler encodes a branch's offset as target - (pc + 2), and refuses a target outside
[pc + 2 - 128, pc + 2 + 127] (30_encoding.md R89). That the target is a four-digit address, and that its reach is taken on
integers, without the wrap at 16 bits, so that a target the branch itself reaches across 0xFFFF is refused, is the model's
choice (log 15), not the rule's. -/
def Obligations.AssemblerEncodesBranchOffset : Prop :=
  ∀ (pc : Addr) (target : Nat), target ≤ 0xFFFF →
    ∀ mo ∈ [(Mnemonic.bcc, (0x90 : Byte)), (.bcs, 0xB0), (.beq, 0xF0), (.bmi, 0x30), (.bne, 0xD0), (.bpl, 0x10),
      (.bvc, 0x50), (.bvs, 0x70)],
    ((pc.toNat : Int) + 2 - 128 ≤ target ∧ (target : Int) ≤ pc.toNat + 2 + 127 →
      ∃ off : Byte, AsmLine.assemble ⟨mo.1, .long target⟩ pc = some [mo.2, off] ∧
        off.toInt = (target : Int) - ((pc.toNat : Int) + 2)) ∧
    (¬ ((pc.toNat : Int) + 2 - 128 ≤ target ∧ (target : Int) ≤ pc.toNat + 2 + 127) →
      AsmLine.assemble ⟨mo.1, .long target⟩ pc = none)

/-! ## The bus -/

/-- 20_memory.md R40, R41, R43, R44: every address reaches the region and index of its range; the unmapped addresses are
0x4018-0x401F, and 0x2008-0x3FFF without PPU_REG_MIRROR; an index is inside its region, and every index of every region is
reached. -/
def Obligations.AddressDecodeIsTotalAndCoversRegions : Prop :=
  ∀ mirror : Bool,
    (∀ a : Addr,
      (a.toNat ≤ 0x1FFF → busDecode mirror a = some (.wram, a.toNat % 0x0800)) ∧
      (0x2000 ≤ a.toNat ∧ a.toNat ≤ 0x2007 → busDecode mirror a = some (.ppureg, a.toNat - 0x2000)) ∧
      (mirror = true → 0x2008 ≤ a.toNat ∧ a.toNat ≤ 0x3FFF → busDecode mirror a = some (.ppureg, a.toNat % 8)) ∧
      (0x4000 ≤ a.toNat ∧ a.toNat ≤ 0x4017 → busDecode mirror a = some (.apuio, a.toNat - 0x4000)) ∧
      (0x4020 ≤ a.toNat → busDecode mirror a = some (.cart, a.toNat - 0x4020))) ∧
    (∀ a : Addr, busDecode mirror a = none ↔
      (0x4018 ≤ a.toNat ∧ a.toNat ≤ 0x401F) ∨ (mirror = false ∧ 0x2008 ≤ a.toNat ∧ a.toNat ≤ 0x3FFF)) ∧
    (∀ (a : Addr) (r : Region) (k : Nat), busDecode mirror a = some (r, k) → k < r.size) ∧
    (∀ (r : Region) (k : Nat), k < r.size → ∃ a : Addr, busDecode mirror a = some (r, k))

/-- 20_memory.md R42, 70_reset_and_hazards.md R285: the four aliases of a byte of work RAM name one byte: a write through any
of them is seen through every other, and through no other address. -/
def Obligations.WorkRamAliasesShareOneByte : Prop :=
  ∀ (s : State) (a i j : Nat) (v : Byte), a < 0x0800 → i < 4 → j < 4 →
    ∃ t, memWrite s (BitVec.ofNat 16 (a + 0x0800 * i)) v = .ok t ∧
      memRead t (BitVec.ofNat 16 (a + 0x0800 * j)) = .ok v ∧
      ∀ x : Addr, (0x1FFF < x.toNat ∨ x.toNat % 0x0800 ≠ a) → memRead t x = memRead s x

/-- 20_memory.md R48, R50: 16-bit accesses are little-endian, are rejected at 0xFFFF, and raise UnmappedAddress of the
lower unmapped byte. -/
def Obligations.SixteenBitAccessesAreLittleEndian : Prop :=
  ∀ (s : State) (a w : Addr),
    (a = 0xFFFF → memRead16 s a = .error (.outOfBoundsAccess a 2) ∧ memWrite16 s a w = .error (.outOfBoundsAccess a 2)) ∧
    (a ≠ 0xFFFF → s.decodeAddr a = none →
      memRead16 s a = .error (.unmappedAddress a) ∧ memWrite16 s a w = .error (.unmappedAddress a)) ∧
    (a ≠ 0xFFFF → s.decodeAddr a ≠ none → s.decodeAddr (a + 1) = none →
      memRead16 s a = .error (.unmappedAddress (a + 1)) ∧ memWrite16 s a w = .error (.unmappedAddress (a + 1))) ∧
    (∀ lo hi, a ≠ 0xFFFF → memRead s a = .ok lo → memRead s (a + 1) = .ok hi → memRead16 s a = .ok (word hi lo)) ∧
    (a ≠ 0xFFFF → s.decodeAddr a ≠ none → s.decodeAddr (a + 1) ≠ none →
      ∃ t u, memWrite s a (BitVec.ofNat 8 (w.toNat % 256)) = .ok t ∧
        memWrite t (a + 1) (BitVec.ofNat 8 (w.toNat / 256)) = .ok u ∧ memWrite16 s a w = .ok u)

/-- 20_memory.md R47, R49, R53, R64: a 1-byte access at an unmapped address raises UnmappedAddress; at a mapped one a write
is read back through every address of the cell (unless CART_CPU_WRITE drops it), every other address reads as before, and
a read or a write changes nothing else. -/
def Obligations.ByteWritesAreReadBack : Prop :=
  ∀ (s : State) (a : Addr) (v : Byte),
    (s.decodeAddr a = none →
      memRead s a = .error (.unmappedAddress a) ∧ memWrite s a v = .error (.unmappedAddress a)) ∧
    (s.decodeAddr a ≠ none →
      (∃ u, memRead s a = .ok u) ∧
      ∃ t, memWrite s a v = .ok t ∧ { t with mem := s.mem } = s ∧ CpuStored s t a v)

/-- 20_memory.md R55: BulkWrite rejects a range past 0xFFFF or with an unmapped address, naming the lowest, and otherwise
stores every byte in increasing order of address, whatever CART_CPU_WRITE; an address reads the last byte stored to its
cell, or as before. -/
def Obligations.BulkWriteIsAllOrNothing : Prop :=
  ∀ (s : State) (a : Addr) (bytes : List Byte),
    (bytes = [] → bulkWrite s a bytes = .ok s) ∧
    (bytes ≠ [] → 0x10000 < a.toNat + bytes.length →
      bulkWrite s a bytes = .error (.outOfBoundsAccess a bytes.length)) ∧
    (bytes ≠ [] → a.toNat + bytes.length ≤ 0x10000 → ∀ k < bytes.length,
      s.decodeAddr (a + BitVec.ofNat 16 k) = none →
      (∀ j < k, s.decodeAddr (a + BitVec.ofNat 16 j) ≠ none) →
      bulkWrite s a bytes = .error (.unmappedAddress (a + BitVec.ofNat 16 k))) ∧
    (a.toNat + bytes.length ≤ 0x10000 → (∀ k < bytes.length, s.decodeAddr (a + BitVec.ofNat 16 k) ≠ none) →
      ∃ t, bulkWrite s a bytes = .ok t ∧ { t with mem := s.mem } = s ∧
        ReadsAfter s t ((bytes.zipIdx.map (fun e => (a + BitVec.ofNat 16 e.2, e.1))).reverse))

/-- Two canonical memories that read alike are the same list: equal memories are equal data (log 9). -/
def Obligations.CanonicalMemoriesAreEqualWhenReadAlike : Prop :=
  ∀ m m' : Memory, m.wf = true → m'.wf = true → (∀ k, m.get k = m'.get k) → m = m'

/-! ## The host -/

/-- 70_reset_and_hazards.md R270, R271: Reset sets SP to 0xFF, the flags to InterruptDisable only, PC to the little-endian
word at 0xFFFC, `cycles` to 0 and `run` to Running, from any state, and changes nothing else. -/
def Obligations.ResetSetsRegistersFromVector : Prop :=
  ∀ s : State, ∃ lo hi, memRead s 0xFFFC = .ok lo ∧ memRead s 0xFFFD = .ok hi ∧
    hostReset s = { s with
      sp := 0xFF
      p := { n := false, v := false, r := false, b := false, d := false, i := true, z := false, c := false }
      pc := word hi lo
      cycles := 0
      run := .running }

/-- 70_reset_and_hazards.md R272, R275, R276, 95_test_vectors.md S3: booting a 16 KiB image at the default load base starts
at the word its bytes at 0xFFFC hold, with INITIAL_AXY in A, X and Y, the image from 0xC000 on and INITIAL_MEMORY below it; a
32 KiB image is rejected and no machine starts. -/
def Obligations.BootStartsAtLoadedVector : Prop :=
  ∀ (params : Params) (image : List Byte), params.cartLoadBase = 0xC000 →
    (image.length = 0x4000 → ∃ t, boot params image = .ok t ∧ t.run = .running ∧
      t.pc = word (image.getD 0x3FFD 0) (image.getD 0x3FFC 0) ∧
      t.a = params.initialA ∧ t.x = params.initialX ∧ t.y = params.initialY ∧
      (∀ k < 0x4000, memRead t (0xC000 + BitVec.ofNat 16 k) = .ok (image.getD k 0)) ∧
      ∀ x : Addr, x.toNat < 0xC000 → memRead t x = memRead (construct params) x) ∧
    (image.length = 0x8000 → boot params image = .error (.outOfBoundsAccess 0xC000 0x8000))

/-- 60_exceptions.md R255: a frame adds FRAME_BUDGET to the credit and takes every cycle its steps add from it, so that the
remainder carries over; it steps while the credit is positive, the machine is Running and the host asks for no stop, and
ends at the first boundary where one of the three fails; and it ends after finitely many steps when every nominal cost is at
least 1. The number of turns it is evaluated for, and the stop requests as a function of the boundary, are the model's
form (log 11). -/
def Obligations.FrameSpendsItsCredit : Prop :=
  ∀ (stop : Nat → Bool) (s : State),
    (∀ (turns : Nat) (t : State), runFrame stop turns s = some t →
      t.credit = s.credit + s.params.frameBudget.val - (t.cycles - s.cycles : Rat) ∧
      ∃ n ≤ turns, t = runState s n ∧
        (∀ m < n, 0 < (runState s m).credit ∧ (runState s m).run = .running ∧ stop m = false) ∧
        (t.credit ≤ 0 ∨ t.run ≠ .running ∨ stop n = true)) ∧
    ((∀ op : Byte, 1 ≤ nominalCost s.params op) → ∃ t, FrameEnds stop s t)

/-- 00_scope.md R3: a machine is constructed with one record of every parameter of the table, and no instruction, reset or
host action changes it: steps, resets, 1-byte, 2-byte and bulk writes, boots, frames and runs of frames. -/
def Obligations.NoActionChangesAParameter : Prop :=
  (∀ params : Params, (construct params).params = params ∧
    ∀ (image : List Byte) (t : State), boot params image = .ok t → t.params = params) ∧
  ∀ s : State,
    (∀ (i : Instr) (t : State), exec i s = .next t → t.params = s.params) ∧
    (∀ t : State, step s = .next t → t.params = s.params) ∧
    (hostReset s).params = s.params ∧
    (∀ (a : Addr) (v : Byte) (t : State), memWrite s a v = .ok t → t.params = s.params) ∧
    (∀ (a w : Addr) (t : State), memWrite16 s a w = .ok t → t.params = s.params) ∧
    (∀ (a : Addr) (bytes : List Byte) (t : State), bulkWrite s a bytes = .ok t → t.params = s.params) ∧
    (∀ (stop : Nat → Bool) (t : State), FrameEnds stop s t → t.params = s.params) ∧
    ∀ n, (runState s n).params = s.params

/-- 60_exceptions.md R261, R262: a run of frames ends at the first point where the machine is Halted, or is Running with PC at
the launch's END_PC, or the host stops, and not before. The order of the three at one point (log 12), and that END_PC is
not compared before the first reset (log 22), are the model's. -/
def Obligations.RunEndsAtFirstBoundary : Prop :=
  ∀ (endPc : Option Addr) (stop : Nat → Bool) (s : State),
    (∀ (turns : Nat) (e : RunEnd) (t : State), runFrames endPc stop turns s = some (e, t) ↔
      ∃ n ≤ turns, t = runState s n ∧ runEnd? endPc (stop n) t = some e ∧
        ∀ m < n, runEnd? endPc (stop m) (runState s m) = none) ∧
    (∀ (k : ErrorKind) (h : Bool), s.run = .halted k → runEnd? endPc h s = some (.halted k)) ∧
    (∀ h : Bool, s.run = .running → endPc = some s.pc → runEnd? endPc h s = some .reachedEndPc) ∧
    (∀ h : Bool, (s.run = .running ∧ endPc ≠ some s.pc) ∨ s.run = .reset →
      runEnd? endPc h s = if h then some .hostStopped else none)
end

