-- ==== Sys2Proof/Laws/Decode.lean ====
section
/-! SUPPORT. The laws of the byte order and of the length table: the two bytes of an address and the address of two bytes
are inverse, an instruction has at most two operand bytes, and as many as its opcode's length. -/

namespace Sys2Proof

theorem hilo_toNat (hi lo : Byte) : (hilo hi lo).toNat = 256 * hi.toNat + lo.toNat := by
  have h := lo.isLt
  simp only [hilo, BitVec.toNat_append]
  rw [← Nat.shiftLeft_add_eq_or_of_lt (by omega), Nat.shiftLeft_eq]
  omega

theorem loByte_toNat (w : Addr) : (loByte w).toNat = w.toNat % 256 := by
  simp [loByte]

theorem hiByte_toNat (w : Addr) : (hiByte w).toNat = w.toNat / 256 := by
  have h := w.isLt
  simp only [hiByte, BitVec.extractLsb'_toNat, Nat.shiftRight_eq_div_pow]
  omega

@[simp] theorem loByte_hilo (hi lo : Byte) : loByte (hilo hi lo) = lo := by
  have h := lo.isLt
  apply BitVec.eq_of_toNat_eq
  rw [loByte_toNat, hilo_toNat]
  omega

@[simp] theorem hiByte_hilo (hi lo : Byte) : hiByte (hilo hi lo) = hi := by
  have h := lo.isLt
  apply BitVec.eq_of_toNat_eq
  rw [hiByte_toNat, hilo_toNat]
  omega

@[simp] theorem hilo_hiByte_loByte (w : Addr) : hilo (hiByte w) (loByte w) = w := by
  apply BitVec.eq_of_toNat_eq
  rw [hilo_toNat, hiByte_toNat, loByte_toNat]
  omega

/-- No instruction has more than two operand bytes (30_encoding.md R80). -/
theorem oplen_le (op : Byte) : oplen op ≤ 2 := by
  revert op
  decide +kernel

/-- An instruction has as many operand bytes as the length table gives its opcode (30_encoding.md R82). -/
theorem operands_length (i : Instr) : i.operands.length = oplen i.opcode := by cases i <;> rfl

/-- Whether an opcode is implemented does not depend on its operand bytes. -/
theorem decodeOp_eq_none (op b1 b2 : Byte) : decodeOp op b1 b2 = none ↔ dispatchEntry op matches .sentinel := by
  unfold decodeOp
  cases dispatchEntry op <;> simp

end Sys2Proof
end

