-- ==== Sys2Proof/Laws/State.lean ====
section
/-! SUPPORT. What each update of the state leaves in each field: one lemma for each field and update. -/

namespace Sys2Proof.Machine.State

section
variable (s : State) (v : Byte)
@[simp] theorem setA_a : (s.setA v).a = v := rfl
@[simp] theorem setA_x : (s.setA v).x = s.x := rfl
@[simp] theorem setA_y : (s.setA v).y = s.y := rfl
@[simp] theorem setA_sp : (s.setA v).sp = s.sp := rfl
@[simp] theorem setA_pc : (s.setA v).pc = s.pc := rfl
@[simp] theorem setA_p : (s.setA v).p = s.p := rfl
@[simp] theorem setA_run : (s.setA v).run = s.run := rfl
@[simp] theorem setA_cycles : (s.setA v).cycles = s.cycles := rfl
@[simp] theorem setA_faults : (s.setA v).faults = s.faults := rfl
@[simp] theorem setA_mem : (s.setA v).mem = s.mem := rfl
@[simp] theorem setA_credit : (s.setA v).credit = s.credit := rfl
@[simp] theorem setA_params : (s.setA v).params = s.params := rfl
end

section
variable (s : State) (v : Byte)
@[simp] theorem setX_a : (s.setX v).a = s.a := rfl
@[simp] theorem setX_x : (s.setX v).x = v := rfl
@[simp] theorem setX_y : (s.setX v).y = s.y := rfl
@[simp] theorem setX_sp : (s.setX v).sp = s.sp := rfl
@[simp] theorem setX_pc : (s.setX v).pc = s.pc := rfl
@[simp] theorem setX_p : (s.setX v).p = s.p := rfl
@[simp] theorem setX_run : (s.setX v).run = s.run := rfl
@[simp] theorem setX_cycles : (s.setX v).cycles = s.cycles := rfl
@[simp] theorem setX_faults : (s.setX v).faults = s.faults := rfl
@[simp] theorem setX_mem : (s.setX v).mem = s.mem := rfl
@[simp] theorem setX_credit : (s.setX v).credit = s.credit := rfl
@[simp] theorem setX_params : (s.setX v).params = s.params := rfl
end

section
variable (s : State) (v : Byte)
@[simp] theorem setY_a : (s.setY v).a = s.a := rfl
@[simp] theorem setY_x : (s.setY v).x = s.x := rfl
@[simp] theorem setY_y : (s.setY v).y = v := rfl
@[simp] theorem setY_sp : (s.setY v).sp = s.sp := rfl
@[simp] theorem setY_pc : (s.setY v).pc = s.pc := rfl
@[simp] theorem setY_p : (s.setY v).p = s.p := rfl
@[simp] theorem setY_run : (s.setY v).run = s.run := rfl
@[simp] theorem setY_cycles : (s.setY v).cycles = s.cycles := rfl
@[simp] theorem setY_faults : (s.setY v).faults = s.faults := rfl
@[simp] theorem setY_mem : (s.setY v).mem = s.mem := rfl
@[simp] theorem setY_credit : (s.setY v).credit = s.credit := rfl
@[simp] theorem setY_params : (s.setY v).params = s.params := rfl
end

section
variable (s : State) (v : Byte)
@[simp] theorem setSp_a : (s.setSp v).a = s.a := rfl
@[simp] theorem setSp_x : (s.setSp v).x = s.x := rfl
@[simp] theorem setSp_y : (s.setSp v).y = s.y := rfl
@[simp] theorem setSp_sp : (s.setSp v).sp = v := rfl
@[simp] theorem setSp_pc : (s.setSp v).pc = s.pc := rfl
@[simp] theorem setSp_p : (s.setSp v).p = s.p := rfl
@[simp] theorem setSp_run : (s.setSp v).run = s.run := rfl
@[simp] theorem setSp_cycles : (s.setSp v).cycles = s.cycles := rfl
@[simp] theorem setSp_faults : (s.setSp v).faults = s.faults := rfl
@[simp] theorem setSp_mem : (s.setSp v).mem = s.mem := rfl
@[simp] theorem setSp_credit : (s.setSp v).credit = s.credit := rfl
@[simp] theorem setSp_params : (s.setSp v).params = s.params := rfl
end

section
variable (s : State) (v : Addr)
@[simp] theorem setPc_a : (s.setPc v).a = s.a := rfl
@[simp] theorem setPc_x : (s.setPc v).x = s.x := rfl
@[simp] theorem setPc_y : (s.setPc v).y = s.y := rfl
@[simp] theorem setPc_sp : (s.setPc v).sp = s.sp := rfl
@[simp] theorem setPc_pc : (s.setPc v).pc = v := rfl
@[simp] theorem setPc_p : (s.setPc v).p = s.p := rfl
@[simp] theorem setPc_run : (s.setPc v).run = s.run := rfl
@[simp] theorem setPc_cycles : (s.setPc v).cycles = s.cycles := rfl
@[simp] theorem setPc_faults : (s.setPc v).faults = s.faults := rfl
@[simp] theorem setPc_mem : (s.setPc v).mem = s.mem := rfl
@[simp] theorem setPc_credit : (s.setPc v).credit = s.credit := rfl
@[simp] theorem setPc_params : (s.setPc v).params = s.params := rfl
end

section
variable (s : State) (v : Flags)
@[simp] theorem setP_a : (s.setP v).a = s.a := rfl
@[simp] theorem setP_x : (s.setP v).x = s.x := rfl
@[simp] theorem setP_y : (s.setP v).y = s.y := rfl
@[simp] theorem setP_sp : (s.setP v).sp = s.sp := rfl
@[simp] theorem setP_pc : (s.setP v).pc = s.pc := rfl
@[simp] theorem setP_p : (s.setP v).p = v := rfl
@[simp] theorem setP_run : (s.setP v).run = s.run := rfl
@[simp] theorem setP_cycles : (s.setP v).cycles = s.cycles := rfl
@[simp] theorem setP_faults : (s.setP v).faults = s.faults := rfl
@[simp] theorem setP_mem : (s.setP v).mem = s.mem := rfl
@[simp] theorem setP_credit : (s.setP v).credit = s.credit := rfl
@[simp] theorem setP_params : (s.setP v).params = s.params := rfl
end

section
variable (s : State) (v : RunState)
@[simp] theorem setRun_a : (s.setRun v).a = s.a := rfl
@[simp] theorem setRun_x : (s.setRun v).x = s.x := rfl
@[simp] theorem setRun_y : (s.setRun v).y = s.y := rfl
@[simp] theorem setRun_sp : (s.setRun v).sp = s.sp := rfl
@[simp] theorem setRun_pc : (s.setRun v).pc = s.pc := rfl
@[simp] theorem setRun_p : (s.setRun v).p = s.p := rfl
@[simp] theorem setRun_run : (s.setRun v).run = v := rfl
@[simp] theorem setRun_cycles : (s.setRun v).cycles = s.cycles := rfl
@[simp] theorem setRun_faults : (s.setRun v).faults = s.faults := rfl
@[simp] theorem setRun_mem : (s.setRun v).mem = s.mem := rfl
@[simp] theorem setRun_credit : (s.setRun v).credit = s.credit := rfl
@[simp] theorem setRun_params : (s.setRun v).params = s.params := rfl
end

section
variable (s : State) (v : Nat)
@[simp] theorem setCycles_a : (s.setCycles v).a = s.a := rfl
@[simp] theorem setCycles_x : (s.setCycles v).x = s.x := rfl
@[simp] theorem setCycles_y : (s.setCycles v).y = s.y := rfl
@[simp] theorem setCycles_sp : (s.setCycles v).sp = s.sp := rfl
@[simp] theorem setCycles_pc : (s.setCycles v).pc = s.pc := rfl
@[simp] theorem setCycles_p : (s.setCycles v).p = s.p := rfl
@[simp] theorem setCycles_run : (s.setCycles v).run = s.run := rfl
@[simp] theorem setCycles_cycles : (s.setCycles v).cycles = v := rfl
@[simp] theorem setCycles_faults : (s.setCycles v).faults = s.faults := rfl
@[simp] theorem setCycles_mem : (s.setCycles v).mem = s.mem := rfl
@[simp] theorem setCycles_credit : (s.setCycles v).credit = s.credit := rfl
@[simp] theorem setCycles_params : (s.setCycles v).params = s.params := rfl
end

section
variable (s : State) (v : List FaultRecord)
@[simp] theorem setFaults_a : (s.setFaults v).a = s.a := rfl
@[simp] theorem setFaults_x : (s.setFaults v).x = s.x := rfl
@[simp] theorem setFaults_y : (s.setFaults v).y = s.y := rfl
@[simp] theorem setFaults_sp : (s.setFaults v).sp = s.sp := rfl
@[simp] theorem setFaults_pc : (s.setFaults v).pc = s.pc := rfl
@[simp] theorem setFaults_p : (s.setFaults v).p = s.p := rfl
@[simp] theorem setFaults_run : (s.setFaults v).run = s.run := rfl
@[simp] theorem setFaults_cycles : (s.setFaults v).cycles = s.cycles := rfl
@[simp] theorem setFaults_faults : (s.setFaults v).faults = v := rfl
@[simp] theorem setFaults_mem : (s.setFaults v).mem = s.mem := rfl
@[simp] theorem setFaults_credit : (s.setFaults v).credit = s.credit := rfl
@[simp] theorem setFaults_params : (s.setFaults v).params = s.params := rfl
end

section
variable (s : State) (v : Memory)
@[simp] theorem setMem_a : (s.setMem v).a = s.a := rfl
@[simp] theorem setMem_x : (s.setMem v).x = s.x := rfl
@[simp] theorem setMem_y : (s.setMem v).y = s.y := rfl
@[simp] theorem setMem_sp : (s.setMem v).sp = s.sp := rfl
@[simp] theorem setMem_pc : (s.setMem v).pc = s.pc := rfl
@[simp] theorem setMem_p : (s.setMem v).p = s.p := rfl
@[simp] theorem setMem_run : (s.setMem v).run = s.run := rfl
@[simp] theorem setMem_cycles : (s.setMem v).cycles = s.cycles := rfl
@[simp] theorem setMem_faults : (s.setMem v).faults = s.faults := rfl
@[simp] theorem setMem_mem : (s.setMem v).mem = v := rfl
@[simp] theorem setMem_credit : (s.setMem v).credit = s.credit := rfl
@[simp] theorem setMem_params : (s.setMem v).params = s.params := rfl
end

section
variable (s : State) (v : Rat)
@[simp] theorem setCredit_a : (s.setCredit v).a = s.a := rfl
@[simp] theorem setCredit_x : (s.setCredit v).x = s.x := rfl
@[simp] theorem setCredit_y : (s.setCredit v).y = s.y := rfl
@[simp] theorem setCredit_sp : (s.setCredit v).sp = s.sp := rfl
@[simp] theorem setCredit_pc : (s.setCredit v).pc = s.pc := rfl
@[simp] theorem setCredit_p : (s.setCredit v).p = s.p := rfl
@[simp] theorem setCredit_run : (s.setCredit v).run = s.run := rfl
@[simp] theorem setCredit_cycles : (s.setCredit v).cycles = s.cycles := rfl
@[simp] theorem setCredit_faults : (s.setCredit v).faults = s.faults := rfl
@[simp] theorem setCredit_mem : (s.setCredit v).mem = s.mem := rfl
@[simp] theorem setCredit_credit : (s.setCredit v).credit = v := rfl
@[simp] theorem setCredit_params : (s.setCredit v).params = s.params := rfl
end

end Sys2Proof.Machine.State
end

