-- ==== Sys2Proof/Laws/Flags.lean ====
section
/-! SUPPORT. The flag setters as one update of `p`: every flag computation of the model is a change of `p` alone, and these
lemmas say which. -/

namespace Sys2Proof.Machine

/-- The value `setFlag` leaves: the condition, or the old value where the flag is only ever asserted. -/
def flagValue (only cond old : Bool) : Bool := cond || (only && old)

@[simp] theorem flagValue_false (cond old : Bool) : flagValue false cond old = cond := by cases cond <;> rfl

theorem Flags.put_get (p : Flags) (f : Flag) : p.put f (p.get f) = p := by cases f <;> rfl

theorem setFlag_eq (f : Flag) (cond : Bool) (s : State) :
    setFlag f cond s = s.setP (s.p.put f (flagValue (setOnlyHas s.params.setOnly f) cond (s.p.get f))) := by
  unfold setFlag flagValue
  cases setOnlyHas s.params.setOnly f <;> cases cond <;> simp [Flags.put_get, State.setP]

/-- `setNZ` writes N and Z and nothing else. -/
theorem setNZ_eq (v : Byte) (s : State) :
    setNZ v s = s.setP { s.p with
      n := flagValue s.params.setOnly.n v.msb s.p.n
      z := flagValue s.params.setOnly.z (v == 0x00) s.p.z } := by
  simp [setNZ, setFlag_eq, State.setP, Flags.put, Flags.get, setOnlyHas]

/-- `setNZload` writes N and Z and nothing else. -/
theorem setNZLoad_eq (v : Byte) (s : State) :
    setNZLoad v s = s.setP { s.p with
      n := flagValue s.params.setOnly.n (if s.params.loadNQuirk then v == 0x00 else v.msb) s.p.n
      z := flagValue s.params.setOnly.z (v == 0x00) s.p.z } := by
  unfold setNZLoad
  split <;> simp_all [setNZ, setFlag_eq, State.setP, Flags.put, Flags.get, setOnlyHas]

/-- `AddWithCarry` writes A, C, V, Z and N and nothing else. -/
theorem addWithCarry_eq (a m : Byte) (s : State) :
    addWithCarry a m s =
      (s.setA ((sum9 a m s.p.c).setWidth 8)).setP { s.p with
        c := flagValue s.params.setOnly.c ((sum9 a m s.p.c).getLsbD 8) s.p.c
        v := flagValue s.params.setOnly.v
          ((a ^^^ (sum9 a m s.p.c).setWidth 8) &&& (m ^^^ (sum9 a m s.p.c).setWidth 8)).msb s.p.v
        n := flagValue s.params.setOnly.n ((sum9 a m s.p.c).setWidth 8).msb s.p.n
        z := flagValue s.params.setOnly.z ((sum9 a m s.p.c).setWidth 8 == 0x00) s.p.z } := by
  simp [addWithCarry, setNZ_eq, setFlag_eq, State.setP, State.setA, Flags.put, Flags.get, setOnlyHas]

/-- `Compare` writes Z, N and C and nothing else. -/
theorem compare_eq (r m : Byte) (s : State) :
    compare r m s = s.setP { s.p with
      z := flagValue s.params.setOnly.z (diff16 r m == 0) s.p.z
      n := flagValue s.params.setOnly.n
        (match s.params.cmpN with
          | .bit7 => (diff16 r m).getLsbD 7
          | .sign16 => (diff16 r m).slt 0) s.p.n
      c := flagValue s.params.setOnly.c
        (if s.params.cmpCarryReversed then (0 : BitVec 16).sle (diff16 m r) else (0 : BitVec 16).sle (diff16 r m))
        s.p.c } := by
  unfold compare
  cases h : s.params.cmpN <;> cases h2 : s.params.cmpCarryReversed <;>
    simp [setFlag_eq, State.setP, Flags.put, Flags.get, setOnlyHas]

/-- `BIT` writes Z, N and V and nothing else. -/
theorem bitTest_eq (a m : Byte) (s : State) :
    bitTest a m s = s.setP { s.p with
      z := flagValue s.params.setOnly.z (a &&& m == 0x00) s.p.z
      n := flagValue s.params.setOnly.n (m.getLsbD 7) s.p.n
      v := flagValue s.params.setOnly.v (m.getLsbD 6) s.p.v } := by
  simp [bitTest, setFlag_eq, State.setP, Flags.put, Flags.get, setOnlyHas]

/-- A restored status byte writes N, V, D, I, Z and C, and leaves B and R. -/
theorem restoreFlags_eq (v : Byte) (s : State) :
    restoreFlags v s = s.setP { s.p with
      n := v.getLsbD 7, v := v.getLsbD 6, d := v.getLsbD 3, i := v.getLsbD 2, z := v.getLsbD 1, c := v.getLsbD 0 } := by
  rfl

theorem Flags.pack_or (p : Flags) : p.pack ||| 0x30 = ({ p with r := true, b := true } : Flags).pack := by
  obtain ⟨n, v, r, b, d, i, z, c⟩ := p
  revert n v r b d i z c
  decide +kernel

/-- The pushed copy carries 1 in bits 5 and 4 whatever the stored B and R are (10_state.md R17). -/
theorem pushedFlags_eq (s : State) : pushedFlags s = ({ s.p with r := true, b := true } : Flags).pack :=
  Flags.pack_or s.p

/-- Unpacking what was packed. -/
theorem pack_getLsbD (p : Flags) (f : Flag) : p.pack.getLsbD f.bit = p.get f := by
  obtain ⟨n, v, r, b, d, i, z, c⟩ := p
  cases f <;> revert n v r b d i z c <;> decide +kernel

end Sys2Proof.Machine
end

