-- ==== Sys2Proof/Laws/Memory.lean ====
section
/-! SUPPORT. The laws of a list of cells: a read after a write, and the canonical form that every write keeps. -/

namespace Sys2Proof.Machine.Memory

theorem get_insert_same (m : Memory) (k : Nat) (v : Byte) : (m.insert k v).get k = v := by
  induction m with
  | nil => simp [Memory.insert, Memory.get]
  | cons c m ih =>
    simp only [Memory.insert]
    split
    · simp [Memory.get]
    · split
      · simp [Memory.get]
      · simp_all [Memory.get]

theorem get_insert_other (m : Memory) {k j : Nat} (v : Byte) (h : j ≠ k) : (m.insert k v).get j = m.get j := by
  induction m with
  | nil => simp [Memory.insert, Memory.get, Ne.symm h]
  | cons c m ih =>
    simp only [Memory.insert]
    split
    · simp [Memory.get, Ne.symm h]
    · split
      · rename_i h1 h2
        subst h2
        simp [Memory.get, Ne.symm h]
      · simp [Memory.get, ih]

theorem get_filter_same (m : Memory) (k : Nat) :
    Memory.get (m.filter (fun c => decide (c.1 ≠ k))) k = Params.unlistedByte := by
  induction m with
  | nil => rfl
  | cons c m ih =>
    by_cases h : c.1 = k
    · simp_all
    · simp_all [Memory.get]

theorem get_filter_other (m : Memory) {k j : Nat} (h : j ≠ k) :
    Memory.get (m.filter (fun c => decide (c.1 ≠ k))) j = m.get j := by
  induction m with
  | nil => rfl
  | cons c m ih =>
    by_cases hk : c.1 = k
    · subst hk
      simp_all [Memory.get, Ne.symm h]
    · simp_all [Memory.get]

/-- A cell reads as the byte last written to it. -/
@[simp] theorem get_put_same (m : Memory) (k : Nat) (v : Byte) : (m.put k v).get k = v := by
  unfold Memory.put
  split
  · rename_i h
    rw [h]
    exact get_filter_same m k
  · exact get_insert_same m k v

/-- A write leaves every other cell alone. -/
theorem get_put_other (m : Memory) {k j : Nat} (v : Byte) (h : j ≠ k) : (m.put k v).get j = m.get j := by
  unfold Memory.put
  split
  · exact get_filter_other m h
  · exact get_insert_other m v h

theorem rising_filter (m : Memory) (f : Host.Cell → Bool) (h : m.rising = true) : Memory.rising (m.filter f) = true := by
  induction m with
  | nil => rfl
  | cons c m ih =>
    simp only [Memory.rising, Bool.and_eq_true, List.all_eq_true] at h
    simp only [List.filter_cons]
    split
    · simp only [Memory.rising, Bool.and_eq_true, List.all_eq_true]
      exact ⟨fun d hd => h.1 d (List.mem_filter.mp hd).1, ih h.2⟩
    · exact ih h.2

/-- The cells an insertion lists: the new one, and some of the old. -/
theorem mem_insert {m : Memory} {k : Nat} {v : Byte} {c : Host.Cell} (h : c ∈ m.insert k v) : c = (k, v) ∨ c ∈ m := by
  induction m with
  | nil => simpa [Memory.insert] using h
  | cons d m ih =>
    simp only [Memory.insert] at h
    split at h
    · simpa using h
    · split at h
      · rcases List.mem_cons.mp h with h | h
        · exact .inl h
        · exact .inr (List.mem_cons_of_mem _ h)
      · rcases List.mem_cons.mp h with h | h
        · exact .inr (h ▸ List.mem_cons_self)
        · exact (ih h).imp id (List.mem_cons_of_mem _)

theorem rising_insert (m : Memory) (k : Nat) (v : Byte) (h : m.rising = true) : (m.insert k v).rising = true := by
  induction m with
  | nil => rfl
  | cons c m ih =>
    have h' := h
    simp only [Memory.rising, Bool.and_eq_true, List.all_eq_true, decide_eq_true_eq] at h
    simp only [Memory.insert]
    split
    · rename_i hk
      simp only [Memory.rising, Bool.and_eq_true, List.all_eq_true, decide_eq_true_eq]
      refine ⟨fun d hd => ?_, fun d hd => h.1 d hd, h.2⟩
      rcases List.mem_cons.mp hd with rfl | hd
      · exact hk
      · exact lt_trans hk (h.1 d hd)
    · split
      · rename_i hk
        subst hk
        simp only [Memory.rising, Bool.and_eq_true, List.all_eq_true, decide_eq_true_eq]
        exact h
      · rename_i h1 h2
        simp only [Memory.rising, Bool.and_eq_true, List.all_eq_true, decide_eq_true_eq]
        refine ⟨fun d hd => ?_, ih h.2⟩
        rcases mem_insert hd with rfl | hd
        · simp only
          omega
        · exact h.1 d hd

/-- Every write of a cell that exists keeps the canonical form. -/
theorem wf_put (m : Memory) {k : Nat} (v : Byte) (hk : Memory.isCell k = true) (h : m.wf = true) :
    (m.put k v).wf = true := by
  simp only [Memory.wf, Bool.and_eq_true, List.all_eq_true] at h ⊢
  unfold Memory.put
  split
  · exact ⟨rising_filter m _ h.1, fun c hc => h.2 c (List.mem_filter.mp hc).1⟩
  · rename_i hv
    refine ⟨rising_insert m k v h.1, fun c hc => ?_⟩
    rcases mem_insert hc with rfl | hc
    · simp [hk, hv]
    · exact h.2 c hc

/-- INITIAL_MEMORY, whatever its list, is a memory in the canonical form. -/
theorem wf_ofCells (cs : List Host.Cell) : (Memory.ofCells cs).wf = true := by
  induction cs with
  | nil => rfl
  | cons c cs ih =>
    unfold Memory.ofCells
    split
    · exact wf_put _ c.2 (by assumption) ih
    · exact ih

/-- It reads at every cell as its list does. -/
theorem get_ofCells (cs : List Host.Cell) {k : Nat} (hk : Memory.isCell k = true) :
    (Memory.ofCells cs).get k = Memory.get cs k := by
  induction cs with
  | nil => rfl
  | cons c cs ih =>
    rw [Memory.ofCells]
    change _ = if c.1 = k then c.2 else Memory.get cs k
    by_cases hc : c.1 = k
    · rw [if_pos hc, hc, if_pos hk, get_put_same]
    · rw [if_neg hc]
      split
      · rw [get_put_other _ _ (Ne.symm hc), ih]
      · exact ih

end Sys2Proof.Machine.Memory
end

