-- ==== Sys2Proof/Laws/Ops.lean ====
section
/-! SUPPORT. What each shared operation can do: the address decoder, the accesses, the stack, the errors and how an
instruction completes. Later proofs cite these and do not unfold the operations again. -/

namespace Sys2Proof.Machine

/-! ## Results of operations that may raise -/

@[simp] theorem ok_bind {α β : Type} (x : α) (f : α → Except Raise β) : ((Except.ok x : Except Raise α) >>= f) = f x := rfl

@[simp] theorem error_bind {α β : Type} (e : Raise) (f : α → Except Raise β) :
    ((Except.error e : Except Raise α) >>= f) = .error e := rfl

/-- What a sequence answers comes from its parts. -/
theorem bind_eq_ok {α β : Type} {x : Except Raise α} {f : α → Except Raise β} {r : β} :
    (x >>= f) = .ok r ↔ ∃ a, x = .ok a ∧ f a = .ok r := by
  cases x <;> simp

theorem bind_eq_error {α β : Type} {x : Except Raise α} {f : α → Except Raise β} {e : Raise} :
    (x >>= f) = .error e ↔ x = .error e ∨ ∃ a, x = .ok a ∧ f a = .error e := by
  cases x <;> simp

/-! ## The address decoder -/

theorem and_7FF (n : Nat) : n &&& 0x07FF = n % 0x0800 := Nat.and_two_pow_sub_one_eq_mod n 11

theorem and_7 (n : Nat) : n &&& 0x0007 = n % 0x0008 := Nat.and_two_pow_sub_one_eq_mod n 3

/-- Work RAM (20_memory.md R42). -/
theorem busDecode_wram (mirror : Bool) {a : Addr} (h : a.toNat ≤ 0x1FFF) :
    busDecode mirror a = some (.wram, a.toNat % 0x0800) := by
  simp [busDecode, h, and_7FF]

/-- The cartridge window (20_memory.md R45). -/
theorem busDecode_cart (mirror : Bool) {a : Addr} (h : 0x4020 ≤ a.toNat) :
    busDecode mirror a = some (.cart, a.toNat - 0x4020) := by
  unfold busDecode
  simp only
  split_ifs <;> first | omega | rfl

/-- An address that decodes reaches an index inside its region. -/
theorem busDecode_lt {mirror : Bool} {a : Addr} {r : Region × Nat} (h : busDecode mirror a = some r) :
    r.2 < r.1.size := by
  have ha := a.isLt
  unfold busDecode at h
  simp only [and_7FF, and_7] at h
  split_ifs at h <;> simp only [Option.some.injEq] at h <;> subst h <;> simp only [Region.size] <;> omega

theorem isCell_iff (k : Nat) : Memory.isCell k = true ↔
    k < 0x0800 ∨ (0x2000 ≤ k ∧ k < 0x2008) ∨ (0x4000 ≤ k ∧ k < 0x4018) ∨ (0x4020 ≤ k ∧ k < 0x10000) := by
  simp [Memory.isCell, or_assoc]

/-- It reaches a cell that exists. -/
theorem isCell_of_lt {r : Region × Nat} (h : r.2 < r.1.size) : Memory.isCell (cellOf r) = true := by
  obtain ⟨r, k⟩ := r
  rw [isCell_iff]
  cases r <;> simp only [Region.size, cellOf, Region.base] at h ⊢ <;> omega

theorem busDecode_isCell {mirror : Bool} {a : Addr} {r : Region × Nat} (h : busDecode mirror a = some r) :
    Memory.isCell (cellOf r) = true := isCell_of_lt (busDecode_lt h)

/-- Two indexes of the same cell are the same region and index: the regions are disjoint (20_memory.md R40). -/
theorem cellOf_inj {r t : Region × Nat} (hr : r.2 < r.1.size) (ht : t.2 < t.1.size) (h : cellOf r = cellOf t) : r = t := by
  obtain ⟨r, i⟩ := r
  obtain ⟨t, j⟩ := t
  cases r <;> cases t <;> simp only [Region.size, cellOf, Region.base] at hr ht h <;> first | omega | (congr 1; omega)

/-! ## Accesses -/

theorem memRead_of_decode {s : State} {a : Addr} {r : Region × Nat} (h : s.decodeAddr a = some r) :
    memRead s a = .ok (s.mem.get (cellOf r)) := by
  simp [memRead, h]

theorem memRead_unmapped {s : State} {a : Addr} (h : s.decodeAddr a = none) :
    memRead s a = .error (.unmappedAddress a) := by
  simp [memRead, h]

/-- A read raises only UnmappedAddress of an address that is unmapped. -/
theorem memRead_eq_error {s : State} {a : Addr} {e : Raise} (h : memRead s a = .error e) :
    e = .unmappedAddress a ∧ s.decodeAddr a = none := by
  unfold memRead at h
  split at h <;> simp_all

/-- A read sees the parameters and the memory only. -/
theorem memRead_congr {s t : State} (hp : s.params = t.params) (hm : s.mem = t.mem) (a : Addr) :
    memRead s a = memRead t a := by
  simp [memRead, State.decodeAddr, hp, hm]

theorem memRead16_congr {s t : State} (hp : s.params = t.params) (hm : s.mem = t.mem) (a : Addr) :
    memRead16 s a = memRead16 t a := by
  simp [memRead16, memRead_congr hp hm]

/-- A write answers one store, and raises only UnmappedAddress. -/
theorem memWrite_of_decode {s : State} {a : Addr} {r : Region × Nat} (v : Byte) (h : s.decodeAddr a = some r) :
    memWrite s a v = .ok (cpuStore s r v) := by
  simp [memWrite, h]

theorem memWrite_unmapped {s : State} {a : Addr} (v : Byte) (h : s.decodeAddr a = none) :
    memWrite s a v = .error (.unmappedAddress a) := by
  simp [memWrite, h]

/-- A store changes the memory and nothing else. -/
theorem cpuStore_eq (s : State) (r : Region × Nat) (v : Byte) :
    cpuStore s r v =
      s.setMem (if r.1 = .cart ∧ s.params.cartWrite = .ignore then s.mem else s.mem.put (cellOf r) v) := by
  unfold cpuStore storeByte
  split <;> rfl

theorem cpuStore_wram (s : State) (k : Nat) (v : Byte) : cpuStore s (.wram, k) v = storeByte s (.wram, k) v := by
  simp [cpuStore]

/-- The byte stored is read through every address that reaches its cell (20_memory.md R42, R64). -/
theorem memRead_storeByte_same {s : State} {a : Addr} {r : Region × Nat} (v : Byte) (h : s.decodeAddr a = some r) :
    memRead (storeByte s r v) a = .ok v := by
  have h' : (storeByte s r v).decodeAddr a = some r := h
  rw [memRead_of_decode h']
  simp [storeByte]

/-- Every other address reads as before. -/
theorem memRead_storeByte_other {s : State} {a b : Addr} {r : Region × Nat} (v : Byte) (hb : s.decodeAddr b = some r)
    (h : s.decodeAddr a ≠ s.decodeAddr b) : memRead (storeByte s r v) a = memRead s a := by
  have h' : (storeByte s r v).decodeAddr a = s.decodeAddr a := rfl
  unfold memRead
  rw [h']
  cases ha : s.decodeAddr a with
  | none => rfl
  | some q =>
    have hne : cellOf q ≠ cellOf r := fun hc => h (by
      rw [ha, hb, cellOf_inj (busDecode_lt ha) (busDecode_lt hb) hc])
    simp [storeByte, Memory.get_put_other _ v hne]

/-- Page zero is work RAM, so a read there never raises (40_step_and_addressing.md R121). -/
theorem memRead_zeroPage (s : State) (b : Byte) : memRead s (zext16 b) = .ok (s.mem.get b.toNat) := by
  have hb := b.isLt
  have hn : (zext16 b).toNat = b.toNat := by simp [zext16]; omega
  have h : s.decodeAddr (zext16 b) = some (.wram, b.toNat) := by
    rw [State.decodeAddr, busDecode_wram _ (by omega), hn, Nat.mod_eq_of_lt (by omega)]
  rw [memRead_of_decode h]
  simp [cellOf, Region.base]

/-- The vectors are in the cartridge window, so a vector read never raises (20_memory.md R60). -/
theorem memRead16_cart (s : State) {a : Addr} (h : 0x4020 ≤ a.toNat) (h' : a.toNat + 1 ≤ 0xFFFF) :
    memRead16 s a = .ok (hilo (s.mem.get (a.toNat + 1)) (s.mem.get a.toNat)) := by
  have hn : (a + 1).toNat = a.toNat + 1 := by rw [BitVec.toNat_add]; simp; omega
  have h0 : s.decodeAddr a = some (.cart, a.toNat - 0x4020) := busDecode_cart _ h
  have h1 : s.decodeAddr (a + 1) = some (.cart, a.toNat + 1 - 0x4020) := by
    rw [State.decodeAddr, busDecode_cart _ (by omega), hn]
  unfold memRead16
  rw [if_neg (by omega), memRead_of_decode h0, memRead_of_decode h1]
  simp only [ok_bind, cellOf, Region.base]
  rw [Nat.add_sub_cancel' h, Nat.add_sub_cancel' (by omega)]

theorem memRead16_vector (s : State) :
    (∃ w, memRead16 s resetVector = .ok w) ∧ (∃ w, memRead16 s brkVector = .ok w) :=
  ⟨⟨_, memRead16_cart s (by decide) (by decide)⟩, ⟨_, memRead16_cart s (by decide) (by decide)⟩⟩

/-! ## The stack -/

/-- The stack is in the first two pages of work RAM (20_memory.md R56). -/
theorem stackAddr_toNat (s : State) :
    s.stackAddr.toNat = (match s.params.stackBase with | .page1 => 0x0100 | .page0 => 0) + s.sp.toNat := by
  have h := s.sp.isLt
  unfold State.stackAddr stackBaseAddr
  cases s.params.stackBase <;> simp [zext16, BitVec.toNat_add] <;> omega

theorem stackAddr_lt (s : State) : s.stackAddr.toNat < 0x0200 := by
  have h := s.sp.isLt
  rw [stackAddr_toNat]
  cases s.params.stackBase <;> simp <;> omega

theorem stackAddr_decode (s : State) : s.decodeAddr s.stackAddr = some (.wram, s.stackAddr.toNat) := by
  have h := stackAddr_lt s
  rw [State.decodeAddr, busDecode_wram _ (by omega), Nat.mod_eq_of_lt (by omega)]

/-- A push stores one byte of work RAM and decrements SP; it never raises. -/
theorem push_eq (v : Byte) (s : State) :
    push v s = .ok ((storeByte s (.wram, s.stackAddr.toNat) v).setSp (s.sp - 1)) := by
  simp [push, memWrite_of_decode v (stackAddr_decode s), cpuStore_wram, storeByte]

/-- A pull increments SP and reads one byte of work RAM; it never raises. -/
theorem pull_eq (s : State) :
    pull s = .ok (s.mem.get (s.setSp (s.sp + 1)).stackAddr.toNat, s.setSp (s.sp + 1)) := by
  have h := memRead_of_decode (stackAddr_decode (s.setSp (s.sp + 1)))
  unfold pull
  simp only [h, ok_bind, cellOf, Region.base, Nat.zero_add, State.setSp_mem]

/-! ## How an instruction completes -/

/-- An instruction always answers a next state: what its body leaves, or the error taken in the state before. -/
theorem complete_cases (i : Instr) (body : State → Except Raise State) (s : State) :
    (∃ t, body (s.setPc (s.fall i.opcode)) = .ok t ∧
      complete i body s = .next (t.setCycles (s.cycles + nominalCost s.params i.opcode))) ∨
    (∃ e, body (s.setPc (s.fall i.opcode)) = .error e ∧ complete i body s = .next (takeError e i.opcode s)) := by
  unfold complete
  cases h : body (s.setPc (s.fall i.opcode)) with
  | ok t => exact .inl ⟨t, rfl, rfl⟩
  | error e => exact .inr ⟨e, rfl, rfl⟩

theorem complete_ok {i : Instr} {body : State → Except Raise State} {s t : State}
    (h : body (s.setPc (s.fall i.opcode)) = .ok t) :
    complete i body s = .next (t.setCycles (s.cycles + nominalCost s.params i.opcode)) := by
  simp [complete, h]

theorem complete_error {i : Instr} {body : State → Except Raise State} {s : State} {e : Raise}
    (h : body (s.setPc (s.fall i.opcode)) = .error e) : complete i body s = .next (takeError e i.opcode s) := by
  simp [complete, h]

end Sys2Proof.Machine
end

