-- ==== Sys2Proof/Laws/Operands.lean ====
section
/-! SUPPORT. What the operand forms can do: a pointer in page zero is always read (40_step_and_addressing.md R121), so an
effective address is always computed, and it depends on X, Y, the parameters and the memory only. -/

namespace Sys2Proof.Machine

theorem zpPointer_eq (s : State) (z : Byte) :
    zpPointer s z = .ok (hilo (s.mem.get (z + 1).toNat) (s.mem.get z.toNat)) := by
  have h0 := memRead_zeroPage s z
  have h1 := memRead_zeroPage s (z + 1)
  unfold zpPointer
  simp only [h0, h1, ok_bind]

/-- Every memory mode has an effective address. -/
theorem ea_ok (m : MemOperand) (s : State) : ∃ ea, m.ea s = .ok ea := by
  cases m <;> simp only [MemOperand.ea, zpPointer_eq, ok_bind] <;> try exact ⟨_, rfl⟩
  split <;> exact ⟨_, rfl⟩

/-- An effective address sees X, Y, the parameters and the memory. -/
theorem ea_congr {s t : State} (hx : s.x = t.x) (hy : s.y = t.y) (hp : s.params = t.params) (hm : s.mem = t.mem)
    (m : MemOperand) : m.ea s = m.ea t := by
  cases m <;> simp [MemOperand.ea, zpPointer_eq, hx, hy, hp, hm]

@[simp] theorem ea_setPc (m : MemOperand) (s : State) (w : Addr) : m.ea (s.setPc w) = m.ea s :=
  ea_congr rfl rfl rfl rfl m

@[simp] theorem memRead_setPc (s : State) (w a : Addr) : memRead (s.setPc w) a = memRead s a := rfl

@[simp] theorem decodeAddr_setPc (s : State) (w a : Addr) : (s.setPc w).decodeAddr a = s.decodeAddr a := rfl

@[simp] theorem value_setPc (o : ReadOperand) (s : State) (w : Addr) : o.value (s.setPc w) = o.value s := by
  cases o <;> simp [ReadOperand.value]

/-- A read-class instruction whose operand is read does what its function says. -/
theorem readClass_ok {o : ReadOperand} {f : Byte → State → State} {s : State} {v : Byte} (h : o.value s = .ok v) :
    readClass o f s = .ok (f v s) := by
  simp [readClass, h]

theorem value_mem_ok {m : MemOperand} {s : State} {ea : Addr} {v : Byte} (h : m.ea s = .ok ea)
    (hv : memRead s ea = .ok v) : (ReadOperand.mem m).value s = .ok v := by
  simp [ReadOperand.value, h, hv]

/-- An operand is read unless its address is unmapped. -/
theorem value_eq_error {o : ReadOperand} {s : State} {e : Raise} (h : o.value s = .error e) :
    ∃ a, e = .unmappedAddress a ∧ s.decodeAddr a = none := by
  cases o with
  | imm v => simp [ReadOperand.value] at h
  | mem m =>
    obtain ⟨ea, hea⟩ := ea_ok m s
    simp only [ReadOperand.value, hea, ok_bind] at h
    exact ⟨ea, memRead_eq_error h⟩

/-- A store-class instruction writes its effective address, or raises because it is unmapped. -/
theorem storeClass_ok {m : MemOperand} {v : Byte} {s : State} {ea : Addr} {r : Region × Nat} (h : m.ea s = .ok ea)
    (hr : s.decodeAddr ea = some r) : storeClass m v s = .ok (cpuStore s r v) := by
  simp [storeClass, h, memWrite_of_decode v hr]

/-- A read-modify-write form writes the byte it read, through the function (44_inc_dec_shift.md R190). -/
theorem modify_mem_ok {m : MemOperand} {f : Byte → State → Byte × State} {s : State} {ea : Addr} {r : Region × Nat}
    (h : m.ea s = .ok ea) (hr : s.decodeAddr ea = some r)
    (hf : (f (s.mem.get (cellOf r)) s).2.decodeAddr ea = some r) :
    modify (.mem m) f s =
      .ok (setNZ (f (s.mem.get (cellOf r)) s).1
        (cpuStore (f (s.mem.get (cellOf r)) s).2 r (f (s.mem.get (cellOf r)) s).1)) := by
  simp [modify, h, memRead_of_decode hr, memWrite_of_decode _ hf]

end Sys2Proof.Machine
end

