-- ==== Sys2Proof/Laws/Exec.lean ====
section
/-! SUPPORT. What every instruction can do: its body leaves the parameters, the credit, the run state, the counters, the
records, and the stored Reserved and Break flags alone and keeps memory canonical, and what it raises is so. One lemma
for each shared operation, one for each body, and one inversion lemma for `exec`, which later proofs cite. -/

namespace Sys2Proof.Machine

/-- What every body leaves as it was. -/
structure Kept (t u : State) : Prop where
  params : u.params = t.params
  credit : u.credit = t.credit
  run : u.run = t.run
  cycles : u.cycles = t.cycles
  faults : u.faults = t.faults
  r : u.p.r = t.p.r
  b : u.p.b = t.p.b
  wf : t.mem.wf = true → u.mem.wf = true

theorem Kept.refl (t : State) : Kept t t := ⟨rfl, rfl, rfl, rfl, rfl, rfl, rfl, id⟩

theorem Kept.trans {t u v : State} (h : Kept t u) (k : Kept u v) : Kept t v :=
  ⟨k.params.trans h.params, k.credit.trans h.credit, k.run.trans h.run, k.cycles.trans h.cycles,
    k.faults.trans h.faults, k.r.trans h.r, k.b.trans h.b, k.wf ∘ h.wf⟩

/-- An error a body of `i` at `pc0` can raise, and what is then so. -/
def Raised (i : Instr) (pc0 : Addr) (c : Params) : Raise → Prop
  | .unmappedAddress a => busDecode c.ppuRegMirror a = none
  | .outOfBoundsAccess a n => 0x10000 < a.toNat + n
  | .unimplementedOpcode op pc =>
    op = i.opcode ∧ pc = pc0 ∧ (i.mnemonic = .adc ∨ i.mnemonic = .sbc) ∧ c.decimal = .fault

/-- The law of a body of `i`, run in a step from `pc0`. -/
structure Lawful (i : Instr) (pc0 : Addr) (body : State → Except Raise State) : Prop where
  ok : ∀ t u, body t = .ok u → Kept t u
  error : ∀ t e, body t = .error e → Raised i pc0 t.params e

/-! ## The shared operations -/

theorem setPc_kept (s : State) (w : Addr) : Kept s (s.setPc w) := ⟨rfl, rfl, rfl, rfl, rfl, rfl, rfl, id⟩
theorem setSp_kept (s : State) (v : Byte) : Kept s (s.setSp v) := ⟨rfl, rfl, rfl, rfl, rfl, rfl, rfl, id⟩
theorem setA_kept (s : State) (v : Byte) : Kept s (s.setA v) := ⟨rfl, rfl, rfl, rfl, rfl, rfl, rfl, id⟩
theorem setX_kept (s : State) (v : Byte) : Kept s (s.setX v) := ⟨rfl, rfl, rfl, rfl, rfl, rfl, rfl, id⟩
theorem setY_kept (s : State) (v : Byte) : Kept s (s.setY v) := ⟨rfl, rfl, rfl, rfl, rfl, rfl, rfl, id⟩

theorem setFlag_kept {f : Flag} (hr : f ≠ .r) (hb : f ≠ .b) (x : Bool) (s : State) : Kept s (setFlag f x s) := by
  rw [setFlag_eq]
  cases f <;> simp at hr hb <;> exact ⟨rfl, rfl, rfl, rfl, rfl, rfl, rfl, id⟩

theorem forceFlag_kept {f : Flag} (hr : f ≠ .r) (hb : f ≠ .b) (x : Bool) (s : State) : Kept s (forceFlag f x s) := by
  cases f <;> simp at hr hb <;> exact ⟨rfl, rfl, rfl, rfl, rfl, rfl, rfl, id⟩

theorem setNZ_kept (v : Byte) (s : State) : Kept s (setNZ v s) := by
  rw [setNZ_eq]
  exact ⟨rfl, rfl, rfl, rfl, rfl, rfl, rfl, id⟩

theorem setNZLoad_kept (v : Byte) (s : State) : Kept s (setNZLoad v s) := by
  rw [setNZLoad_eq]
  exact ⟨rfl, rfl, rfl, rfl, rfl, rfl, rfl, id⟩

theorem addWithCarry_kept (a m : Byte) (s : State) : Kept s (addWithCarry a m s) := by
  rw [addWithCarry_eq]
  exact ⟨rfl, rfl, rfl, rfl, rfl, rfl, rfl, id⟩

theorem compare_kept (r m : Byte) (s : State) : Kept s (compare r m s) := by
  rw [compare_eq]
  exact ⟨rfl, rfl, rfl, rfl, rfl, rfl, rfl, id⟩

theorem bitTest_kept (a m : Byte) (s : State) : Kept s (bitTest a m s) := by
  rw [bitTest_eq]
  exact ⟨rfl, rfl, rfl, rfl, rfl, rfl, rfl, id⟩

theorem restoreFlags_kept (v : Byte) (s : State) : Kept s (restoreFlags v s) := by
  rw [restoreFlags_eq]
  exact ⟨rfl, rfl, rfl, rfl, rfl, rfl, rfl, id⟩

theorem storeByte_kept (s : State) {r : Region × Nat} (v : Byte) (h : r.2 < r.1.size) : Kept s (storeByte s r v) :=
  ⟨rfl, rfl, rfl, rfl, rfl, rfl, rfl, Memory.wf_put s.mem v (isCell_of_lt h)⟩

theorem cpuStore_kept (s : State) {r : Region × Nat} (v : Byte) (h : r.2 < r.1.size) : Kept s (cpuStore s r v) := by
  unfold cpuStore
  split
  · exact .refl s
  · exact storeByte_kept s v h

theorem memWrite_kept {s u : State} {a : Addr} {v : Byte} (h : memWrite s a v = .ok u) : Kept s u := by
  unfold memWrite at h
  split at h
  · rename_i r hr
    injection h with h
    exact h ▸ cpuStore_kept s v (busDecode_lt hr)
  · cases h

theorem push_kept {v : Byte} {s u : State} (h : push v s = .ok u) : Kept s u := by
  obtain ⟨t, ht, h⟩ := bind_eq_ok.mp h
  injection h with h
  exact h ▸ (memWrite_kept ht).trans (setSp_kept t _)

theorem push16_kept {w : Addr} {s u : State} (h : push16 w s = .ok u) : Kept s u := by
  obtain ⟨t, ht, h⟩ := bind_eq_ok.mp h
  exact (push_kept ht).trans (push_kept h)

theorem pull_kept {s : State} {r : Byte × State} (h : pull s = .ok r) : Kept s r.2 := by
  rw [pull_eq] at h
  injection h with h
  exact h ▸ setSp_kept s _

theorem pull16_kept {s : State} {r : Addr × State} (h : pull16 s = .ok r) : Kept s r.2 := by
  obtain ⟨⟨lo, t⟩, ht, h⟩ := bind_eq_ok.mp h
  obtain ⟨⟨hi, u⟩, hu, h⟩ := bind_eq_ok.mp h
  injection h with h
  exact h ▸ (pull_kept ht).trans (pull_kept hu)

/-- The stack never raises (20_memory.md R56). -/
theorem push_ne_error {v : Byte} {s : State} {e : Raise} : push v s ≠ .error e := by simp [push_eq]

theorem push16_ne_error {w : Addr} {s : State} {e : Raise} : push16 w s ≠ .error e := by simp [push16, push_eq]

theorem pull_ne_error {s : State} {e : Raise} : pull s ≠ .error e := by simp [pull_eq]

theorem pull16_ne_error {s : State} {e : Raise} : pull16 s ≠ .error e := by simp [pull16, pull_eq]

theorem enterInterrupt_kept {ret : Addr} {s u : State} (h : enterInterrupt ret s = .ok u) : Kept s u := by
  obtain ⟨t, ht, h⟩ := bind_eq_ok.mp h
  obtain ⟨v, hv, h⟩ := bind_eq_ok.mp h
  obtain ⟨w, -, h⟩ := bind_eq_ok.mp h
  injection h with h
  exact h ▸ ((push16_kept ht).trans (push_kept hv)).trans
    ((forceFlag_kept (by decide) (by decide) true v).trans (setPc_kept _ w))

theorem enterInterrupt_ne_error {ret : Addr} {s : State} {e : Raise} : enterInterrupt ret s ≠ .error e := by
  intro h
  rcases bind_eq_error.mp h with h | ⟨t, -, h⟩
  · exact push16_ne_error h
  · rcases bind_eq_error.mp h with h | ⟨u, -, h⟩
    · exact push_ne_error h
    · obtain ⟨w, hw⟩ := (memRead16_vector (forceFlag .i true u)).2
      simp [hw] at h

theorem returnFromInterrupt_kept {s u : State} (h : returnFromInterrupt s = .ok u) : Kept s u := by
  obtain ⟨⟨v, t⟩, ht, h⟩ := bind_eq_ok.mp h
  obtain ⟨⟨w, x⟩, hx, h⟩ := bind_eq_ok.mp h
  injection h with h
  exact h ▸ ((pull_kept ht).trans (restoreFlags_kept v t)).trans ((pull16_kept hx).trans (setPc_kept x w))

theorem returnFromInterrupt_ne_error {s : State} {e : Raise} : returnFromInterrupt s ≠ .error e := by
  simp [returnFromInterrupt, pull_eq, pull16]

/-! ## Bodies by class -/

section
variable {i : Instr} {pc0 : Addr}

/-- A body that only updates the state. -/
theorem pure_lawful {f : State → State} (h : ∀ t, Kept t (f t)) : Lawful i pc0 (fun t => .ok (f t)) :=
  ⟨fun t u hu => by injection hu with hu; exact hu ▸ h t, fun _ _ he => by cases he⟩

theorem readClass_lawful {f : Byte → State → State} (o : ReadOperand) (h : ∀ v t, Kept t (f v t)) :
    Lawful i pc0 (readClass o f) := by
  refine ⟨fun t u hu => ?_, fun t e he => ?_⟩
  · obtain ⟨v, -, hv⟩ := bind_eq_ok.mp hu
    injection hv with hv
    exact hv ▸ h v t
  · rcases bind_eq_error.mp he with he | ⟨v, -, he⟩
    · obtain ⟨a, rfl, ha⟩ := value_eq_error he
      exact ha
    · cases he

theorem storeClass_lawful (m : MemOperand) (v : State → Byte) : Lawful i pc0 (fun t => storeClass m (v t) t) := by
  refine ⟨fun t u hu => ?_, fun t e he => ?_⟩
  · obtain ⟨ea, -, hw⟩ := bind_eq_ok.mp hu
    exact memWrite_kept hw
  · obtain ⟨ea, hea⟩ := ea_ok m t
    simp only [storeClass, hea, ok_bind, memWrite] at he
    split at he
    · cases he
    · injection he with he
      subst he
      assumption

theorem modify_lawful (f : Byte → State → Byte × State) (o : RmwOperand) (h : ∀ v t, Kept t (f v t).2) :
    Lawful i pc0 (modify o f) := by
  refine ⟨fun t u hu => ?_, fun t e he => ?_⟩
  · cases o with
    | acc =>
      injection hu with hu
      exact hu ▸ (h _ t).trans ((setA_kept _ _).trans (setNZ_kept _ _))
    | mem m =>
      obtain ⟨ea, -, hu⟩ := bind_eq_ok.mp hu
      obtain ⟨v, -, hu⟩ := bind_eq_ok.mp hu
      obtain ⟨w, hw, hu⟩ := bind_eq_ok.mp hu
      injection hu with hu
      exact hu ▸ (h v t).trans ((memWrite_kept hw).trans (setNZ_kept _ _))
  · cases o with
    | acc => cases he
    | mem m =>
      obtain ⟨ea, hea⟩ := ea_ok m t
      simp only [modify, hea, ok_bind] at he
      rcases bind_eq_error.mp he with he | ⟨v, hv, he⟩
      · obtain ⟨rfl, ha⟩ := memRead_eq_error he
        exact ha
      · rcases bind_eq_error.mp he with he | ⟨w, -, he⟩
        · have hd : (f v t).2.decodeAddr ea = t.decodeAddr ea := by rw [State.decodeAddr, (h v t).params]; rfl
          unfold memWrite at he
          rw [hd] at he
          cases hr : t.decodeAddr ea with
          | none => rw [memRead_unmapped hr] at hv; cases hv
          | some r => simp [hr] at he
        · cases he

theorem decimal_lawful {f : Byte → State → State} (hi : i.mnemonic = .adc ∨ i.mnemonic = .sbc) (o : ReadOperand)
    (h : ∀ v t, Kept t (f v t)) :
    Lawful i pc0 (fun t => do
      let m ← o.value t
      decimalChecked i.opcode pc0 t (f m t)) := by
  refine ⟨fun t u hu => ?_, fun t e he => ?_⟩
  · obtain ⟨v, -, hv⟩ := bind_eq_ok.mp hu
    unfold decimalChecked at hv
    split at hv
    · cases hv
    · injection hv with hv
      exact hv ▸ h v t
  · rcases bind_eq_error.mp he with he | ⟨v, -, he⟩
    · obtain ⟨a, rfl, ha⟩ := value_eq_error he
      exact ha
    · unfold decimalChecked at he
      split at he
      · rename_i hd
        injection he with he
        subst he
        exact ⟨rfl, rfl, hi, hd.2⟩
      · cases he

/-! ## The bodies -/

theorem lda_lawful (o : ReadOperand) : Lawful i pc0 (lda o) :=
  readClass_lawful o fun v t => (setA_kept t v).trans (setNZLoad_kept v _)
theorem ldx_lawful (o : ReadOperand) : Lawful i pc0 (ldx o) :=
  readClass_lawful o fun v t => (setX_kept t v).trans (setNZLoad_kept v _)
theorem ldy_lawful (o : ReadOperand) : Lawful i pc0 (ldy o) :=
  readClass_lawful o fun v t => (setY_kept t v).trans (setNZLoad_kept v _)
theorem sta_lawful (m : MemOperand) : Lawful i pc0 (sta m) := storeClass_lawful m State.a
theorem stx_lawful (m : MemOperand) : Lawful i pc0 (stx m) := storeClass_lawful m State.x
theorem sty_lawful (m : MemOperand) : Lawful i pc0 (sty m) := storeClass_lawful m State.y
theorem tax_lawful : Lawful i pc0 tax := pure_lawful fun t => (setX_kept t _).trans (setNZ_kept _ _)
theorem tay_lawful : Lawful i pc0 tay := pure_lawful fun t => (setY_kept t _).trans (setNZ_kept _ _)
theorem txa_lawful : Lawful i pc0 txa := pure_lawful fun t => (setA_kept t _).trans (setNZ_kept _ _)
theorem tya_lawful : Lawful i pc0 tya := pure_lawful fun t => (setA_kept t _).trans (setNZ_kept _ _)
theorem tsx_lawful : Lawful i pc0 tsx := pure_lawful fun t => (setX_kept t _).trans (setNZ_kept _ _)
theorem txs_lawful : Lawful i pc0 txs := pure_lawful fun t => setSp_kept t _

theorem pha_lawful : Lawful i pc0 pha := ⟨fun _ _ => push_kept, fun _ _ he => absurd he push_ne_error⟩
theorem php_lawful : Lawful i pc0 php := ⟨fun _ _ => push_kept, fun _ _ he => absurd he push_ne_error⟩
theorem pla_lawful : Lawful i pc0 pla := by
  refine ⟨fun t u hu => ?_, fun t e he => by simp [pla, pull_eq] at he⟩
  obtain ⟨⟨v, w⟩, hv, hu⟩ := bind_eq_ok.mp hu
  injection hu with hu
  exact hu ▸ (pull_kept hv).trans ((setA_kept w v).trans (setNZ_kept v _))
theorem plp_lawful : Lawful i pc0 plp := by
  refine ⟨fun t u hu => ?_, fun t e he => by simp [plp, pull_eq] at he⟩
  obtain ⟨⟨v, w⟩, hv, hu⟩ := bind_eq_ok.mp hu
  injection hu with hu
  exact hu ▸ (pull_kept hv).trans (restoreFlags_kept v w)

theorem adc_lawful (hi : i.mnemonic = .adc) (o : ReadOperand) : Lawful i pc0 (adc i.opcode pc0 o) :=
  decimal_lawful (.inl hi) o fun _ t => addWithCarry_kept _ _ t
theorem sbc_lawful (hi : i.mnemonic = .sbc) (o : ReadOperand) : Lawful i pc0 (sbc i.opcode pc0 o) :=
  decimal_lawful (.inr hi) o fun _ t => addWithCarry_kept _ _ t
theorem andA_lawful (o : ReadOperand) : Lawful i pc0 (andA o) :=
  readClass_lawful o fun _ t => (setA_kept t _).trans (setNZ_kept _ _)
theorem oraA_lawful (o : ReadOperand) : Lawful i pc0 (oraA o) :=
  readClass_lawful o fun _ t => (setA_kept t _).trans (setNZ_kept _ _)
theorem eorA_lawful (o : ReadOperand) : Lawful i pc0 (eorA o) :=
  readClass_lawful o fun _ t => (setA_kept t _).trans (setNZ_kept _ _)
theorem cmpA_lawful (o : ReadOperand) : Lawful i pc0 (cmpA o) := readClass_lawful o fun _ t => compare_kept _ _ t
theorem cpx_lawful (o : ReadOperand) : Lawful i pc0 (cpx o) := readClass_lawful o fun _ t => compare_kept _ _ t
theorem cpy_lawful (o : ReadOperand) : Lawful i pc0 (cpy o) := readClass_lawful o fun _ t => compare_kept _ _ t
theorem bitA_lawful (o : ReadOperand) : Lawful i pc0 (bitA o) := readClass_lawful o fun _ t => bitTest_kept _ _ t

theorem incM_lawful (o : RmwOperand) : Lawful i pc0 (incM o) := modify_lawful incByte o fun _ t => .refl t
theorem decM_lawful (o : RmwOperand) : Lawful i pc0 (decM o) := modify_lawful decByte o fun _ t => .refl t
theorem inx_lawful : Lawful i pc0 inx := pure_lawful fun t => (setX_kept t _).trans (setNZ_kept _ _)
theorem iny_lawful : Lawful i pc0 iny := pure_lawful fun t => (setY_kept t _).trans (setNZ_kept _ _)
theorem dex_lawful : Lawful i pc0 dex := pure_lawful fun t => (setX_kept t _).trans (setNZ_kept _ _)
theorem dey_lawful : Lawful i pc0 dey := pure_lawful fun t => (setY_kept t _).trans (setNZ_kept _ _)
theorem asl_lawful (o : RmwOperand) : Lawful i pc0 (asl o) :=
  modify_lawful aslByte o fun _ t => setFlag_kept (by decide) (by decide) _ t
theorem lsr_lawful (o : RmwOperand) : Lawful i pc0 (lsr o) :=
  modify_lawful lsrByte o fun _ t => setFlag_kept (by decide) (by decide) _ t
theorem rol_lawful (o : RmwOperand) : Lawful i pc0 (rol o) :=
  modify_lawful rolByte o fun _ t => setFlag_kept (by decide) (by decide) _ t
theorem ror_lawful (o : RmwOperand) : Lawful i pc0 (ror o) :=
  modify_lawful rorByte o fun _ t => setFlag_kept (by decide) (by decide) _ t

theorem branch_lawful (taken : Bool) (off : Byte) : Lawful i pc0 (branch taken off) :=
  pure_lawful fun t => by split; exacts [setPc_kept t _, .refl t]
theorem jmpTo_lawful (w : Addr) : Lawful i pc0 (jmpTo w) := pure_lawful fun t => setPc_kept t w
theorem jsr_lawful (pc target : Addr) : Lawful i pc0 (jsr pc target) := by
  refine ⟨fun t u hu => ?_, fun t e he => ?_⟩
  · obtain ⟨v, hv, hu⟩ := bind_eq_ok.mp hu
    injection hu with hu
    exact hu ▸ (push16_kept hv).trans (setPc_kept v target)
  · rcases bind_eq_error.mp he with he | ⟨v, -, he⟩
    · exact absurd he push16_ne_error
    · cases he
theorem rts_lawful : Lawful i pc0 rts := by
  refine ⟨fun t u hu => ?_, fun t e he => by simp [rts, pull16, pull_eq] at he⟩
  obtain ⟨⟨w, v⟩, hv, hu⟩ := bind_eq_ok.mp hu
  injection hu with hu
  exact hu ▸ (pull16_kept hv).trans (setPc_kept v _)
theorem brk_lawful (pc : Addr) : Lawful i pc0 (brk pc) :=
  ⟨fun _ _ => enterInterrupt_kept, fun _ _ he => absurd he enterInterrupt_ne_error⟩
theorem rti_lawful : Lawful i pc0 rti :=
  ⟨fun _ _ => returnFromInterrupt_kept, fun _ _ he => absurd he returnFromInterrupt_ne_error⟩

theorem jmpThrough_lawful (ptr : Addr) : Lawful i pc0 (jmpThrough ptr) := by
  refine ⟨fun t u hu => ?_, fun t e he => ?_⟩
  · obtain ⟨w, -, hu⟩ := bind_eq_ok.mp hu
    injection hu with hu
    exact hu ▸ setPc_kept t w
  · rcases bind_eq_error.mp he with he | ⟨w, -, he⟩
    · unfold indirectTarget memRead16 at he
      split at he
      · rcases bind_eq_error.mp he with he | ⟨lo, -, he⟩
        · obtain ⟨rfl, ha⟩ := memRead_eq_error he
          exact ha
        · rcases bind_eq_error.mp he with he | ⟨hi, -, he⟩
          · obtain ⟨rfl, ha⟩ := memRead_eq_error he
            exact ha
          · cases he
      · split at he
        · injection he with he
          subst he
          simp only [Raised]
          omega
        · rcases bind_eq_error.mp he with he | ⟨lo, -, he⟩
          · obtain ⟨rfl, ha⟩ := memRead_eq_error he
            exact ha
          · rcases bind_eq_error.mp he with he | ⟨hi, -, he⟩
            · obtain ⟨rfl, ha⟩ := memRead_eq_error he
              exact ha
            · cases he
    · cases he

theorem clc_lawful : Lawful i pc0 clc := pure_lawful fun t => forceFlag_kept (by decide) (by decide) _ t
theorem sec_lawful : Lawful i pc0 sec := pure_lawful fun t => forceFlag_kept (by decide) (by decide) _ t
theorem cli_lawful : Lawful i pc0 cli := pure_lawful fun t => forceFlag_kept (by decide) (by decide) _ t
theorem sei_lawful : Lawful i pc0 sei := pure_lawful fun t => forceFlag_kept (by decide) (by decide) _ t
theorem clv_lawful : Lawful i pc0 clv := pure_lawful fun t => forceFlag_kept (by decide) (by decide) _ t
theorem cld_lawful : Lawful i pc0 cld := pure_lawful fun t => forceFlag_kept (by decide) (by decide) _ t
theorem sed_lawful : Lawful i pc0 sed := pure_lawful fun t => forceFlag_kept (by decide) (by decide) _ t
theorem nop_lawful : Lawful i pc0 nop := pure_lawful fun t => .refl t

end

/-- The inversion lemma of `exec`: every instruction completes a body that keeps the law. -/
theorem exec_lawful (i : Instr) (s : State) : ∃ body, exec i s = complete i body s ∧ Lawful i s.pc body := by
  cases i with
  | brk pad => exact ⟨_, rfl, brk_lawful _⟩
  | oraIndx b => exact ⟨_, rfl, oraA_lawful (.mem (.indx b))⟩
  | oraZp b => exact ⟨_, rfl, oraA_lawful (.mem (.zp b))⟩
  | aslZp b => exact ⟨_, rfl, asl_lawful (.mem (.zp b))⟩
  | php => exact ⟨_, rfl, php_lawful⟩
  | oraImm v => exact ⟨_, rfl, oraA_lawful (.imm v)⟩
  | aslAcc => exact ⟨_, rfl, asl_lawful .acc⟩
  | oraAbs w => exact ⟨_, rfl, oraA_lawful (.mem (.abs w))⟩
  | aslAbs w => exact ⟨_, rfl, asl_lawful (.mem (.abs w))⟩
  | bpl off => exact ⟨_, rfl, branch_lawful _ _⟩
  | oraIndy b => exact ⟨_, rfl, oraA_lawful (.mem (.indy b))⟩
  | oraZpx b => exact ⟨_, rfl, oraA_lawful (.mem (.zpx b))⟩
  | aslZpx b => exact ⟨_, rfl, asl_lawful (.mem (.zpx b))⟩
  | clc => exact ⟨_, rfl, clc_lawful⟩
  | oraAbsy w => exact ⟨_, rfl, oraA_lawful (.mem (.absy w))⟩
  | oraAbsx w => exact ⟨_, rfl, oraA_lawful (.mem (.absx w))⟩
  | aslAbsx w => exact ⟨_, rfl, asl_lawful (.mem (.absx w))⟩
  | jsr w => exact ⟨_, rfl, jsr_lawful _ _⟩
  | andIndx b => exact ⟨_, rfl, andA_lawful (.mem (.indx b))⟩
  | bitZp b => exact ⟨_, rfl, bitA_lawful (.mem (.zp b))⟩
  | andZp b => exact ⟨_, rfl, andA_lawful (.mem (.zp b))⟩
  | rolZp b => exact ⟨_, rfl, rol_lawful (.mem (.zp b))⟩
  | plp => exact ⟨_, rfl, plp_lawful⟩
  | andImm v => exact ⟨_, rfl, andA_lawful (.imm v)⟩
  | rolAcc => exact ⟨_, rfl, rol_lawful .acc⟩
  | bitAbs w => exact ⟨_, rfl, bitA_lawful (.mem (.abs w))⟩
  | andAbs w => exact ⟨_, rfl, andA_lawful (.mem (.abs w))⟩
  | rolAbs w => exact ⟨_, rfl, rol_lawful (.mem (.abs w))⟩
  | bmi off => exact ⟨_, rfl, branch_lawful _ _⟩
  | andIndy b => exact ⟨_, rfl, andA_lawful (.mem (.indy b))⟩
  | andZpx b => exact ⟨_, rfl, andA_lawful (.mem (.zpx b))⟩
  | rolZpx b => exact ⟨_, rfl, rol_lawful (.mem (.zpx b))⟩
  | sec => exact ⟨_, rfl, sec_lawful⟩
  | andAbsy w => exact ⟨_, rfl, andA_lawful (.mem (.absy w))⟩
  | andAbsx w => exact ⟨_, rfl, andA_lawful (.mem (.absx w))⟩
  | rolAbsx w => exact ⟨_, rfl, rol_lawful (.mem (.absx w))⟩
  | rti => exact ⟨_, rfl, rti_lawful⟩
  | eorIndx b => exact ⟨_, rfl, eorA_lawful (.mem (.indx b))⟩
  | eorZp b => exact ⟨_, rfl, eorA_lawful (.mem (.zp b))⟩
  | lsrZp b => exact ⟨_, rfl, lsr_lawful (.mem (.zp b))⟩
  | pha => exact ⟨_, rfl, pha_lawful⟩
  | eorImm v => exact ⟨_, rfl, eorA_lawful (.imm v)⟩
  | lsrAcc => exact ⟨_, rfl, lsr_lawful .acc⟩
  | jmpAbs w => exact ⟨_, rfl, jmpTo_lawful _⟩
  | eorAbs w => exact ⟨_, rfl, eorA_lawful (.mem (.abs w))⟩
  | lsrAbs w => exact ⟨_, rfl, lsr_lawful (.mem (.abs w))⟩
  | bvc off => exact ⟨_, rfl, branch_lawful _ _⟩
  | eorIndy b => exact ⟨_, rfl, eorA_lawful (.mem (.indy b))⟩
  | eorZpx b => exact ⟨_, rfl, eorA_lawful (.mem (.zpx b))⟩
  | lsrZpx b => exact ⟨_, rfl, lsr_lawful (.mem (.zpx b))⟩
  | cli => exact ⟨_, rfl, cli_lawful⟩
  | eorAbsy w => exact ⟨_, rfl, eorA_lawful (.mem (.absy w))⟩
  | eorAbsx w => exact ⟨_, rfl, eorA_lawful (.mem (.absx w))⟩
  | lsrAbsx w => exact ⟨_, rfl, lsr_lawful (.mem (.absx w))⟩
  | rts => exact ⟨_, rfl, rts_lawful⟩
  | adcIndx b => exact ⟨_, rfl, adc_lawful rfl (.mem (.indx b))⟩
  | adcZp b => exact ⟨_, rfl, adc_lawful rfl (.mem (.zp b))⟩
  | rorZp b => exact ⟨_, rfl, ror_lawful (.mem (.zp b))⟩
  | pla => exact ⟨_, rfl, pla_lawful⟩
  | adcImm v => exact ⟨_, rfl, adc_lawful rfl (.imm v)⟩
  | rorAcc => exact ⟨_, rfl, ror_lawful .acc⟩
  | jmpInd w => exact ⟨_, rfl, jmpThrough_lawful _⟩
  | adcAbs w => exact ⟨_, rfl, adc_lawful rfl (.mem (.abs w))⟩
  | rorAbs w => exact ⟨_, rfl, ror_lawful (.mem (.abs w))⟩
  | bvs off => exact ⟨_, rfl, branch_lawful _ _⟩
  | adcIndy b => exact ⟨_, rfl, adc_lawful rfl (.mem (.indy b))⟩
  | adcZpx b => exact ⟨_, rfl, adc_lawful rfl (.mem (.zpx b))⟩
  | rorZpx b => exact ⟨_, rfl, ror_lawful (.mem (.zpx b))⟩
  | sei => exact ⟨_, rfl, sei_lawful⟩
  | adcAbsy w => exact ⟨_, rfl, adc_lawful rfl (.mem (.absy w))⟩
  | adcAbsx w => exact ⟨_, rfl, adc_lawful rfl (.mem (.absx w))⟩
  | rorAbsx w => exact ⟨_, rfl, ror_lawful (.mem (.absx w))⟩
  | staIndx b => exact ⟨_, rfl, sta_lawful (.indx b)⟩
  | styZp b => exact ⟨_, rfl, sty_lawful (.zp b)⟩
  | staZp b => exact ⟨_, rfl, sta_lawful (.zp b)⟩
  | stxZp b => exact ⟨_, rfl, stx_lawful (.zp b)⟩
  | dey => exact ⟨_, rfl, dey_lawful⟩
  | txa => exact ⟨_, rfl, txa_lawful⟩
  | styAbs w => exact ⟨_, rfl, sty_lawful (.abs w)⟩
  | staAbs w => exact ⟨_, rfl, sta_lawful (.abs w)⟩
  | stxAbs w => exact ⟨_, rfl, stx_lawful (.abs w)⟩
  | bcc off => exact ⟨_, rfl, branch_lawful _ _⟩
  | staIndy b => exact ⟨_, rfl, sta_lawful (.indy b)⟩
  | styZpx b => exact ⟨_, rfl, sty_lawful (.zpx b)⟩
  | staZpx b => exact ⟨_, rfl, sta_lawful (.zpx b)⟩
  | stxZpy b => exact ⟨_, rfl, stx_lawful (.zpy b)⟩
  | tya => exact ⟨_, rfl, tya_lawful⟩
  | staAbsy w => exact ⟨_, rfl, sta_lawful (.absy w)⟩
  | txs => exact ⟨_, rfl, txs_lawful⟩
  | staAbsx w => exact ⟨_, rfl, sta_lawful (.absx w)⟩
  | ldyImm v => exact ⟨_, rfl, ldy_lawful (.imm v)⟩
  | ldaIndx b => exact ⟨_, rfl, lda_lawful (.mem (.indx b))⟩
  | ldxImm v => exact ⟨_, rfl, ldx_lawful (.imm v)⟩
  | ldyZp b => exact ⟨_, rfl, ldy_lawful (.mem (.zp b))⟩
  | ldaZp b => exact ⟨_, rfl, lda_lawful (.mem (.zp b))⟩
  | ldxZp b => exact ⟨_, rfl, ldx_lawful (.mem (.zp b))⟩
  | tay => exact ⟨_, rfl, tay_lawful⟩
  | ldaImm v => exact ⟨_, rfl, lda_lawful (.imm v)⟩
  | tax => exact ⟨_, rfl, tax_lawful⟩
  | ldyAbs w => exact ⟨_, rfl, ldy_lawful (.mem (.abs w))⟩
  | ldaAbs w => exact ⟨_, rfl, lda_lawful (.mem (.abs w))⟩
  | ldxAbs w => exact ⟨_, rfl, ldx_lawful (.mem (.abs w))⟩
  | bcs off => exact ⟨_, rfl, branch_lawful _ _⟩
  | ldaIndy b => exact ⟨_, rfl, lda_lawful (.mem (.indy b))⟩
  | ldyZpx b => exact ⟨_, rfl, ldy_lawful (.mem (.zpx b))⟩
  | ldaZpx b => exact ⟨_, rfl, lda_lawful (.mem (.zpx b))⟩
  | ldxZpy b => exact ⟨_, rfl, ldx_lawful (.mem (.zpy b))⟩
  | clv => exact ⟨_, rfl, clv_lawful⟩
  | ldaAbsy w => exact ⟨_, rfl, lda_lawful (.mem (.absy w))⟩
  | tsx => exact ⟨_, rfl, tsx_lawful⟩
  | ldyAbsx w => exact ⟨_, rfl, ldy_lawful (.mem (.absx w))⟩
  | ldaAbsx w => exact ⟨_, rfl, lda_lawful (.mem (.absx w))⟩
  | ldxAbsy w => exact ⟨_, rfl, ldx_lawful (.mem (.absy w))⟩
  | cpyImm v => exact ⟨_, rfl, cpy_lawful (.imm v)⟩
  | cmpIndx b => exact ⟨_, rfl, cmpA_lawful (.mem (.indx b))⟩
  | cpyZp b => exact ⟨_, rfl, cpy_lawful (.mem (.zp b))⟩
  | cmpZp b => exact ⟨_, rfl, cmpA_lawful (.mem (.zp b))⟩
  | decZp b => exact ⟨_, rfl, decM_lawful (.mem (.zp b))⟩
  | iny => exact ⟨_, rfl, iny_lawful⟩
  | cmpImm v => exact ⟨_, rfl, cmpA_lawful (.imm v)⟩
  | dex => exact ⟨_, rfl, dex_lawful⟩
  | cpyAbs w => exact ⟨_, rfl, cpy_lawful (.mem (.abs w))⟩
  | cmpAbs w => exact ⟨_, rfl, cmpA_lawful (.mem (.abs w))⟩
  | decAbs w => exact ⟨_, rfl, decM_lawful (.mem (.abs w))⟩
  | bne off => exact ⟨_, rfl, branch_lawful _ _⟩
  | cmpIndy b => exact ⟨_, rfl, cmpA_lawful (.mem (.indy b))⟩
  | cmpZpx b => exact ⟨_, rfl, cmpA_lawful (.mem (.zpx b))⟩
  | decZpx b => exact ⟨_, rfl, decM_lawful (.mem (.zpx b))⟩
  | cld => exact ⟨_, rfl, cld_lawful⟩
  | cmpAbsy w => exact ⟨_, rfl, cmpA_lawful (.mem (.absy w))⟩
  | cmpAbsx w => exact ⟨_, rfl, cmpA_lawful (.mem (.absx w))⟩
  | decAbsx w => exact ⟨_, rfl, decM_lawful (.mem (.absx w))⟩
  | cpxImm v => exact ⟨_, rfl, cpx_lawful (.imm v)⟩
  | sbcIndx b => exact ⟨_, rfl, sbc_lawful rfl (.mem (.indx b))⟩
  | cpxZp b => exact ⟨_, rfl, cpx_lawful (.mem (.zp b))⟩
  | sbcZp b => exact ⟨_, rfl, sbc_lawful rfl (.mem (.zp b))⟩
  | incZp b => exact ⟨_, rfl, incM_lawful (.mem (.zp b))⟩
  | inx => exact ⟨_, rfl, inx_lawful⟩
  | sbcImm v => exact ⟨_, rfl, sbc_lawful rfl (.imm v)⟩
  | nop => exact ⟨_, rfl, nop_lawful⟩
  | cpxAbs w => exact ⟨_, rfl, cpx_lawful (.mem (.abs w))⟩
  | sbcAbs w => exact ⟨_, rfl, sbc_lawful rfl (.mem (.abs w))⟩
  | incAbs w => exact ⟨_, rfl, incM_lawful (.mem (.abs w))⟩
  | beq off => exact ⟨_, rfl, branch_lawful _ _⟩
  | sbcIndy b => exact ⟨_, rfl, sbc_lawful rfl (.mem (.indy b))⟩
  | sbcZpx b => exact ⟨_, rfl, sbc_lawful rfl (.mem (.zpx b))⟩
  | incZpx b => exact ⟨_, rfl, incM_lawful (.mem (.zpx b))⟩
  | sed => exact ⟨_, rfl, sed_lawful⟩
  | sbcAbsy w => exact ⟨_, rfl, sbc_lawful rfl (.mem (.absy w))⟩
  | sbcAbsx w => exact ⟨_, rfl, sbc_lawful rfl (.mem (.absx w))⟩
  | incAbsx w => exact ⟨_, rfl, incM_lawful (.mem (.absx w))⟩

end Sys2Proof.Machine
end

