-- ==== Sys2Proof/Laws/PerInstr.lean ====
section
/-! SUPPORT. A statement about every instruction as syntax, one lemma for each constructor: an instruction's encoding has
as many bytes as the length table gives its opcode (30_encoding.md R80, R88). -/

namespace Sys2Proof.Laws.Sized

/-- The encoding of an instruction is its opcode byte and OPLEN operand bytes. -/
def Statement (i : Instr) : Prop := (encode i).length = 1 + oplen i.opcode

theorem brk (pad : Byte) : Statement (.brk pad) := rfl
theorem oraIndx (b : Byte) : Statement (.oraIndx b) := rfl
theorem oraZp (b : Byte) : Statement (.oraZp b) := rfl
theorem aslZp (b : Byte) : Statement (.aslZp b) := rfl
theorem php : Statement (.php) := rfl
theorem oraImm (v : Byte) : Statement (.oraImm v) := rfl
theorem aslAcc : Statement (.aslAcc) := rfl
theorem oraAbs (w : Addr) : Statement (.oraAbs w) := rfl
theorem aslAbs (w : Addr) : Statement (.aslAbs w) := rfl
theorem bpl (off : Byte) : Statement (.bpl off) := rfl
theorem oraIndy (b : Byte) : Statement (.oraIndy b) := rfl
theorem oraZpx (b : Byte) : Statement (.oraZpx b) := rfl
theorem aslZpx (b : Byte) : Statement (.aslZpx b) := rfl
theorem clc : Statement (.clc) := rfl
theorem oraAbsy (w : Addr) : Statement (.oraAbsy w) := rfl
theorem oraAbsx (w : Addr) : Statement (.oraAbsx w) := rfl
theorem aslAbsx (w : Addr) : Statement (.aslAbsx w) := rfl
theorem jsr (w : Addr) : Statement (.jsr w) := rfl
theorem andIndx (b : Byte) : Statement (.andIndx b) := rfl
theorem bitZp (b : Byte) : Statement (.bitZp b) := rfl
theorem andZp (b : Byte) : Statement (.andZp b) := rfl
theorem rolZp (b : Byte) : Statement (.rolZp b) := rfl
theorem plp : Statement (.plp) := rfl
theorem andImm (v : Byte) : Statement (.andImm v) := rfl
theorem rolAcc : Statement (.rolAcc) := rfl
theorem bitAbs (w : Addr) : Statement (.bitAbs w) := rfl
theorem andAbs (w : Addr) : Statement (.andAbs w) := rfl
theorem rolAbs (w : Addr) : Statement (.rolAbs w) := rfl
theorem bmi (off : Byte) : Statement (.bmi off) := rfl
theorem andIndy (b : Byte) : Statement (.andIndy b) := rfl
theorem andZpx (b : Byte) : Statement (.andZpx b) := rfl
theorem rolZpx (b : Byte) : Statement (.rolZpx b) := rfl
theorem sec : Statement (.sec) := rfl
theorem andAbsy (w : Addr) : Statement (.andAbsy w) := rfl
theorem andAbsx (w : Addr) : Statement (.andAbsx w) := rfl
theorem rolAbsx (w : Addr) : Statement (.rolAbsx w) := rfl
theorem rti : Statement (.rti) := rfl
theorem eorIndx (b : Byte) : Statement (.eorIndx b) := rfl
theorem eorZp (b : Byte) : Statement (.eorZp b) := rfl
theorem lsrZp (b : Byte) : Statement (.lsrZp b) := rfl
theorem pha : Statement (.pha) := rfl
theorem eorImm (v : Byte) : Statement (.eorImm v) := rfl
theorem lsrAcc : Statement (.lsrAcc) := rfl
theorem jmpAbs (w : Addr) : Statement (.jmpAbs w) := rfl
theorem eorAbs (w : Addr) : Statement (.eorAbs w) := rfl
theorem lsrAbs (w : Addr) : Statement (.lsrAbs w) := rfl
theorem bvc (off : Byte) : Statement (.bvc off) := rfl
theorem eorIndy (b : Byte) : Statement (.eorIndy b) := rfl
theorem eorZpx (b : Byte) : Statement (.eorZpx b) := rfl
theorem lsrZpx (b : Byte) : Statement (.lsrZpx b) := rfl
theorem cli : Statement (.cli) := rfl
theorem eorAbsy (w : Addr) : Statement (.eorAbsy w) := rfl
theorem eorAbsx (w : Addr) : Statement (.eorAbsx w) := rfl
theorem lsrAbsx (w : Addr) : Statement (.lsrAbsx w) := rfl
theorem rts : Statement (.rts) := rfl
theorem adcIndx (b : Byte) : Statement (.adcIndx b) := rfl
theorem adcZp (b : Byte) : Statement (.adcZp b) := rfl
theorem rorZp (b : Byte) : Statement (.rorZp b) := rfl
theorem pla : Statement (.pla) := rfl
theorem adcImm (v : Byte) : Statement (.adcImm v) := rfl
theorem rorAcc : Statement (.rorAcc) := rfl
theorem jmpInd (w : Addr) : Statement (.jmpInd w) := rfl
theorem adcAbs (w : Addr) : Statement (.adcAbs w) := rfl
theorem rorAbs (w : Addr) : Statement (.rorAbs w) := rfl
theorem bvs (off : Byte) : Statement (.bvs off) := rfl
theorem adcIndy (b : Byte) : Statement (.adcIndy b) := rfl
theorem adcZpx (b : Byte) : Statement (.adcZpx b) := rfl
theorem rorZpx (b : Byte) : Statement (.rorZpx b) := rfl
theorem sei : Statement (.sei) := rfl
theorem adcAbsy (w : Addr) : Statement (.adcAbsy w) := rfl
theorem adcAbsx (w : Addr) : Statement (.adcAbsx w) := rfl
theorem rorAbsx (w : Addr) : Statement (.rorAbsx w) := rfl
theorem staIndx (b : Byte) : Statement (.staIndx b) := rfl
theorem styZp (b : Byte) : Statement (.styZp b) := rfl
theorem staZp (b : Byte) : Statement (.staZp b) := rfl
theorem stxZp (b : Byte) : Statement (.stxZp b) := rfl
theorem dey : Statement (.dey) := rfl
theorem txa : Statement (.txa) := rfl
theorem styAbs (w : Addr) : Statement (.styAbs w) := rfl
theorem staAbs (w : Addr) : Statement (.staAbs w) := rfl
theorem stxAbs (w : Addr) : Statement (.stxAbs w) := rfl
theorem bcc (off : Byte) : Statement (.bcc off) := rfl
theorem staIndy (b : Byte) : Statement (.staIndy b) := rfl
theorem styZpx (b : Byte) : Statement (.styZpx b) := rfl
theorem staZpx (b : Byte) : Statement (.staZpx b) := rfl
theorem stxZpy (b : Byte) : Statement (.stxZpy b) := rfl
theorem tya : Statement (.tya) := rfl
theorem staAbsy (w : Addr) : Statement (.staAbsy w) := rfl
theorem txs : Statement (.txs) := rfl
theorem staAbsx (w : Addr) : Statement (.staAbsx w) := rfl
theorem ldyImm (v : Byte) : Statement (.ldyImm v) := rfl
theorem ldaIndx (b : Byte) : Statement (.ldaIndx b) := rfl
theorem ldxImm (v : Byte) : Statement (.ldxImm v) := rfl
theorem ldyZp (b : Byte) : Statement (.ldyZp b) := rfl
theorem ldaZp (b : Byte) : Statement (.ldaZp b) := rfl
theorem ldxZp (b : Byte) : Statement (.ldxZp b) := rfl
theorem tay : Statement (.tay) := rfl
theorem ldaImm (v : Byte) : Statement (.ldaImm v) := rfl
theorem tax : Statement (.tax) := rfl
theorem ldyAbs (w : Addr) : Statement (.ldyAbs w) := rfl
theorem ldaAbs (w : Addr) : Statement (.ldaAbs w) := rfl
theorem ldxAbs (w : Addr) : Statement (.ldxAbs w) := rfl
theorem bcs (off : Byte) : Statement (.bcs off) := rfl
theorem ldaIndy (b : Byte) : Statement (.ldaIndy b) := rfl
theorem ldyZpx (b : Byte) : Statement (.ldyZpx b) := rfl
theorem ldaZpx (b : Byte) : Statement (.ldaZpx b) := rfl
theorem ldxZpy (b : Byte) : Statement (.ldxZpy b) := rfl
theorem clv : Statement (.clv) := rfl
theorem ldaAbsy (w : Addr) : Statement (.ldaAbsy w) := rfl
theorem tsx : Statement (.tsx) := rfl
theorem ldyAbsx (w : Addr) : Statement (.ldyAbsx w) := rfl
theorem ldaAbsx (w : Addr) : Statement (.ldaAbsx w) := rfl
theorem ldxAbsy (w : Addr) : Statement (.ldxAbsy w) := rfl
theorem cpyImm (v : Byte) : Statement (.cpyImm v) := rfl
theorem cmpIndx (b : Byte) : Statement (.cmpIndx b) := rfl
theorem cpyZp (b : Byte) : Statement (.cpyZp b) := rfl
theorem cmpZp (b : Byte) : Statement (.cmpZp b) := rfl
theorem decZp (b : Byte) : Statement (.decZp b) := rfl
theorem iny : Statement (.iny) := rfl
theorem cmpImm (v : Byte) : Statement (.cmpImm v) := rfl
theorem dex : Statement (.dex) := rfl
theorem cpyAbs (w : Addr) : Statement (.cpyAbs w) := rfl
theorem cmpAbs (w : Addr) : Statement (.cmpAbs w) := rfl
theorem decAbs (w : Addr) : Statement (.decAbs w) := rfl
theorem bne (off : Byte) : Statement (.bne off) := rfl
theorem cmpIndy (b : Byte) : Statement (.cmpIndy b) := rfl
theorem cmpZpx (b : Byte) : Statement (.cmpZpx b) := rfl
theorem decZpx (b : Byte) : Statement (.decZpx b) := rfl
theorem cld : Statement (.cld) := rfl
theorem cmpAbsy (w : Addr) : Statement (.cmpAbsy w) := rfl
theorem cmpAbsx (w : Addr) : Statement (.cmpAbsx w) := rfl
theorem decAbsx (w : Addr) : Statement (.decAbsx w) := rfl
theorem cpxImm (v : Byte) : Statement (.cpxImm v) := rfl
theorem sbcIndx (b : Byte) : Statement (.sbcIndx b) := rfl
theorem cpxZp (b : Byte) : Statement (.cpxZp b) := rfl
theorem sbcZp (b : Byte) : Statement (.sbcZp b) := rfl
theorem incZp (b : Byte) : Statement (.incZp b) := rfl
theorem inx : Statement (.inx) := rfl
theorem sbcImm (v : Byte) : Statement (.sbcImm v) := rfl
theorem nop : Statement (.nop) := rfl
theorem cpxAbs (w : Addr) : Statement (.cpxAbs w) := rfl
theorem sbcAbs (w : Addr) : Statement (.sbcAbs w) := rfl
theorem incAbs (w : Addr) : Statement (.incAbs w) := rfl
theorem beq (off : Byte) : Statement (.beq off) := rfl
theorem sbcIndy (b : Byte) : Statement (.sbcIndy b) := rfl
theorem sbcZpx (b : Byte) : Statement (.sbcZpx b) := rfl
theorem incZpx (b : Byte) : Statement (.incZpx b) := rfl
theorem sed : Statement (.sed) := rfl
theorem sbcAbsy (w : Addr) : Statement (.sbcAbsy w) := rfl
theorem sbcAbsx (w : Addr) : Statement (.sbcAbsx w) := rfl
theorem incAbsx (w : Addr) : Statement (.incAbsx w) := rfl

end Sys2Proof.Laws.Sized
end

