-- ==== Sys2Proof/Laws/Step.lean ====
section
/-! SUPPORT. What a step can do, said once: the two ends of phase F, the sentinel, and an instruction; and what reset
leaves. Later proofs cite these and do not unfold `step`, `fetch` or `hostReset` again. -/

namespace Sys2Proof.Machine

/-- The step of a running machine. -/
theorem step_running {s : State} (h : s.run = .running) :
    step s = match fetch s with
      | .error e => .next (takeFetchError e.raised e.op s)
      | .ok f =>
        match decodeOp f.op f.b1 f.b2 with
        | some i => exec i s
        | none => .next (sentinel f.op s) := by
  unfold step
  first | (rw [h]; done) | (rw [h]; rfl)

/-- Only a running machine steps to a next state (10_state.md R23). -/
theorem run_of_step {s t : State} (h : step s = .next t) : s.run = .running := by
  unfold step at h
  split at h <;> first | assumption | cases h

/-- The opcode a fetch answers is the byte at PC. -/
theorem fetch_op {s : State} {f : Fetched} (h : fetch s = .ok f) : memRead s s.pc = .ok f.op := by
  unfold fetch at h
  split at h
  · cases h
  · rename_i op hop
    rw [hop]
    split_ifs at h
    split at h <;> try cases h
    split at h <;> try cases h
    rfl

/-- The inversion lemma of `step`: a running machine takes an error of phase F, or the sentinel's error, or executes the
instruction it decoded. -/
theorem step_cases {s : State} (h : s.run = .running) :
    (∃ e, fetch s = .error e ∧ step s = .next (takeFetchError e.raised e.op s)) ∨
    (∃ f, fetch s = .ok f ∧ memRead s s.pc = .ok f.op ∧ decodeOp f.op f.b1 f.b2 = none ∧
      step s = .next (sentinel f.op s)) ∨
    (∃ f i, fetch s = .ok f ∧ memRead s s.pc = .ok f.op ∧ decodeOp f.op f.b1 f.b2 = some i ∧ step s = exec i s) := by
  rw [step_running h]
  cases hf : fetch s with
  | error e => exact .inl ⟨e, rfl, rfl⟩
  | ok f =>
    cases hd : decodeOp f.op f.b1 f.b2 with
    | none => exact .inr (.inl ⟨f, rfl, fetch_op hf, hd, by simp only [hd]⟩)
    | some i => exact .inr (.inr ⟨f, i, rfl, fetch_op hf, hd, by simp only [hd]⟩)

/-- The eight flag writes of reset leave InterruptDisable only. -/
theorem resetFlags_eq (s : State) : resetFlags s = s.setP Flags.reset := by
  simp only [resetFlags, forceFlag, Flags.put, State.setP, Flags.reset]

/-- The state the model starts from is what the host's reset leaves of a machine constructed with
`Params.defaults` (logs 2 to 5 and 21). -/
theorem reset_is_hostReset : State.reset = hostReset (construct Params.defaults) := by
  rw [hostReset, resetFlags_eq]
  rfl

/-- Its memory is in the canonical form. -/
theorem reset_mem_wf : State.reset.mem.wf = true := rfl

end Sys2Proof.Machine
end

