-- ==== Sys2Proof/Laws/Scheduler.lean ====
section
/-! SUPPORT. What a frame and a run can do, said once: the condition of the loop, a turn of it, and that a greater number of
turns never changes an answer. Later proofs cite these and do not unfold the loops again. -/

namespace Sys2Proof.Machine

/-- The three parts of the loop's condition. -/
theorem frameContinues_iff {stop : Bool} {s : State} :
    frameContinues stop s = true ↔ 0 < s.credit ∧ s.run = .running ∧ stop = false := by
  simp [frameContinues, and_assoc]

/-- A turn is a step with its cycles taken from the credit. -/
theorem frameStep_of_step {s t : State} (h : step s = .next t) :
    frameStep s = t.setCredit (s.credit - ((t.cycles : Rat) - (s.cycles : Rat))) := by
  simp [frameStep, h]

@[simp] theorem frameLoop_continues {stop : Nat → Bool} {turns k : Nat} {s : State}
    (h : frameContinues (stop k) s = true) :
    frameLoop stop (turns + 1) k s = frameLoop stop turns (k + 1) (frameStep s) := by
  rw [frameLoop, if_pos h]

/-- A loop whose condition fails ends where it is, for any number of turns. -/
@[simp] theorem frameLoop_ended {stop : Nat → Bool} {turns k : Nat} {s : State} (h : frameContinues (stop k) s = false) :
    frameLoop stop turns k s = some s := by
  cases turns <;> rw [frameLoop, h] <;> rfl

/-- More turns answer the same end: the number of turns is no part of a frame's meaning. -/
theorem frameLoop_mono {stop : Nat → Bool} {m n k : Nat} {s t : State} (h : frameLoop stop m k s = some t) (hmn : m ≤ n) :
    frameLoop stop n k s = some t := by
  induction m generalizing n k s with
  | zero =>
    cases hc : frameContinues (stop k) s with
    | false => rwa [frameLoop_ended hc] at h ⊢
    | true => rw [frameLoop, if_pos hc] at h; cases h
  | succ m ih =>
    cases hc : frameContinues (stop k) s with
    | false => rwa [frameLoop_ended hc] at h ⊢
    | true =>
      obtain ⟨n, rfl⟩ : ∃ j, n = j + 1 := ⟨n - 1, by omega⟩
      rw [frameLoop_continues hc] at h ⊢
      exact ih h (by omega)

/-- A frame ends in one state at most. -/
theorem FrameEnds.unique {stop : Nat → Bool} {s t u : State} (ht : FrameEnds stop s t) (hu : FrameEnds stop s u) : t = u := by
  obtain ⟨m, hm⟩ := ht
  obtain ⟨n, hn⟩ := hu
  have h1 := frameLoop_mono hm (Nat.le_max_left m n)
  rw [frameLoop_mono hn (Nat.le_max_right m n)] at h1
  exact (Option.some.inj h1).symm

/-- A machine that has halted ends its run, whatever END_PC and the host say. -/
@[simp] theorem runEnd?_halted {endPc : Option Addr} {hostStop : Bool} {s : State} {k : ErrorKind} (h : s.run = .halted k) :
    runEnd? endPc hostStop s = some (.halted k) := by
  simp [runEnd?, h]

/-- What the host's next move is inside a frame, and between two. -/
theorem runTurn_continues {s : State} (h : frameContinues false s = true) : runTurn s = frameStep s := if_pos h

theorem runTurn_ended {s : State} (h : frameContinues false s = false) : runTurn s = frameBegin s := by
  simp [runTurn, h]

end Sys2Proof.Machine
end

