-- ==== Sys2Proof/Tests/Slice0.lean ====
section
/-! SUPPORT. The model's own tests. The expected results are those of 95_test_vectors.md (the names give its case numbers) or
are written out from the rules cited. Then, for each statement with hypotheses, a witness: a concrete state and operands
that meet them. -/

namespace Sys2Proof.Tests

open Sys2Proof.Machine Sys2Proof.Claim

/-! ## Well-formedness -/

/-- Stores have no immediate form, and BIT has none (30_encoding.md R84, R85). -/
theorem test_no_such_form :
    Mnemonic.sta.opcode? .imm = none ∧ Mnemonic.bit.opcode? .imm = none ∧ Mnemonic.stx.opcode? .zpx = none ∧
      Mnemonic.jsr.opcode? .ind = none ∧ Mnemonic.ldx.opcode? .zpx = none := by decide

theorem test_instructions_are_forms :
    (Instr.staAbs 0x0800).wellFormed = true ∧ (Instr.ldxZpy 0xFF).wellFormed = true ∧ Instr.nop.wellFormed = true := by
  decide

/-- BRK's padding byte would lie past 0xFFFF (95_test_vectors.md V6.26); a one-byte instruction fits there (V1.22). -/
theorem test_fitsAt :
    (Instr.brk 0x00).fitsAt 0xFFFF = false ∧ (Instr.jmpAbs 0x0000).fitsAt 0xFFFE = false ∧
      (Instr.jmpAbs 0x0000).fitsAt 0xFFFD = true ∧ Instr.inx.fitsAt 0xFFFF = true := by decide

theorem test_assembler_refuses_forms :
    AsmLine.formOk ⟨.sta, .immediate 0x10⟩ = false ∧ AsmLine.formOk ⟨.inx, .short 0x10⟩ = false ∧
      AsmLine.formOk ⟨.ldx, .shortX 0x10⟩ = false ∧ AsmLine.formOk ⟨.lda, .accumulator⟩ = false := by decide

theorem test_assembler_refuses_sizes :
    AsmOperand.fits (.immediate 0x100) = false ∧ AsmOperand.fits (.short 0x100) = false ∧
      AsmOperand.fits (.long 0x10000) = false ∧ AsmOperand.fits (.immediate 0xFF) = true := by decide

/-- 30_encoding.md R89: at 0xC000 a branch reaches 0xBF82 to 0xC081. -/
theorem test_assembler_refuses_reach :
    AsmLine.reaches ⟨.bne, .long 0xC082⟩ 0xC000 = false ∧ AsmLine.reaches ⟨.bne, .long 0xBF81⟩ 0xC000 = false ∧
      AsmLine.reaches ⟨.bne, .long 0xC081⟩ 0xC000 = true ∧ AsmLine.reaches ⟨.bne, .long 0xBF82⟩ 0xC000 = true := by
  decide

theorem test_assembler_refuses_ill_formed :
    AsmLine.wellFormed ⟨.sta, .immediate 0x10⟩ 0xC000 = false ∧ AsmLine.wellFormed ⟨.lda, .immediate 0x100⟩ 0xC000 = false ∧
      AsmLine.wellFormed ⟨.bne, .long 0xC082⟩ 0xC000 = false := by decide

/-! ## Decoding, from words written out from 30_encoding.md R81 to R85 and 95_test_vectors.md V1 to V7 -/

/-- Load, store, transfer. -/
theorem test_decode_load_store :
    decodeTableWord 16 0x42A9 = some (.ldaImm 0x42) ∧ decodeTableWord 24 0x08008D = some (.staAbs 0x0800) ∧
      decodeTableWord 16 0xFFB6 = some (.ldxZpy 0xFF) ∧ decodeTableWord 24 0x0300BC = some (.ldyAbsx 0x0300) ∧
      decodeTableWord 16 0x4091 = some (.staIndy 0x40) ∧ decodeTableWord 8 0xBA = some .tsx := by decide

/-- Stack. -/
theorem test_decode_stack :
    decodeTableWord 8 0x48 = some .pha ∧ decodeTableWord 8 0x08 = some .php ∧ decodeTableWord 8 0x68 = some .pla ∧
      decodeTableWord 8 0x28 = some .plp := by decide

/-- ALU. -/
theorem test_decode_alu :
    decodeTableWord 24 0x030079 = some (.adcAbsy 0x0300) ∧ decodeTableWord 16 0xB0E9 = some (.sbcImm 0xB0) ∧
      decodeTableWord 16 0x1024 = some (.bitZp 0x10) ∧ decodeTableWord 16 0x10E4 = some (.cpxZp 0x10) := by decide

/-- Increment, decrement, shift, rotate. -/
theorem test_decode_shift :
    decodeTableWord 8 0x0A = some .aslAcc ∧ decodeTableWord 24 0x03007E = some (.rorAbsx 0x0300) ∧
      decodeTableWord 16 0xFFD6 = some (.decZpx 0xFF) ∧ decodeTableWord 8 0xC8 = some .iny := by decide

/-- Control transfer: the low byte of an address comes first; BRK takes its padding byte. -/
theorem test_decode_control :
    decodeTableWord 24 0xD00020 = some (.jsr 0xD000) ∧ decodeTableWord 24 0x02FF6C = some (.jmpInd 0x02FF) ∧
      decodeTableWord 16 0x80D0 = some (.bne 0x80) ∧ decodeTableWord 16 0xEA00 = some (.brk 0xEA) ∧
      decodeTableWord 8 0x40 = some .rti := by decide

/-- Flags and NOP. -/
theorem test_decode_flags : decodeTableWord 8 0xF8 = some .sed ∧ decodeTableWord 8 0xEA = some .nop := by decide

/-- An unimplemented opcode is refused by name, and a missing operand byte is (30_encoding.md R86). -/
theorem test_decode_refuses :
    decode [0x02] = .error (.unimplemented 0x02) ∧ decode [0xAD, 0x00] = .error (.missingOperand 0xAD) ∧
      decode [] = .error .noBytes := ⟨rfl, rfl, rfl⟩

/-- 95_test_vectors.md P1: the bytes and the text of four of its statements. -/
theorem test_assemble :
    AsmLine.assemble ⟨.lda, .immediate 0x42⟩ 0xC000 = some [0xA9, 0x42] ∧
      AsmLine.assemble ⟨.bne, .long 0xC007⟩ 0xC000 = some [0xD0, 0x05] ∧
      AsmLine.assemble ⟨.sta, .long 0x0800⟩ 0xC000 = some [0x8D, 0x00, 0x08] ∧
      AsmLine.assemble ⟨.asl, .none⟩ 0xC000 = some [0x0A] := by decide

theorem test_text :
    (Instr.ldaIndx 0x20).text 0xC000 = "LDA ($20,X)" ∧ (Instr.bne 0x05).text 0xC000 = "BNE $C007" ∧
      (Instr.jmpInd 0x02FF).text 0xC000 = "JMP ($02FF)" := by decide

/-! ## One step -/

/-- Flags from a packed byte, bit 7 down to bit 0 (10_state.md R15). -/
def flagsOf (v : Byte) : Flags where
  n := v.getLsbD 7
  v := v.getLsbD 6
  r := v.getLsbD 5
  b := v.getLsbD 4
  d := v.getLsbD 3
  i := v.getLsbD 2
  z := v.getLsbD 1
  c := v.getLsbD 0

/-- The start state of a vector: the parameters, A, X, Y, SP and P, the PC, and the bytes listed. -/
def start (params : Params) (regs : List Byte) (pc : Addr) (bytes : List (Addr × Byte)) : State :=
  bytes.foldl (fun s e => storeBytes s e.1 [e.2])
    { State.reset with
      a := regs.getD 0 0
      x := regs.getD 1 0
      y := regs.getD 2 0
      sp := regs.getD 3 0
      p := flagsOf (regs.getD 4 0)
      pc := pc
      params := params }

/-- A, X, Y, SP and P. -/
def regs (t : State) : List Byte := [t.a, t.x, t.y, t.sp, t.p.pack]

/-- The registers, PC and cycles after a step that leaves the machine Running, records nothing and keeps memory. -/
def registers (s : State) : Option (List Byte × Addr × Nat) :=
  match step s with
  | .next t => if t.run = .running ∧ t.faults = [] ∧ t.mem = s.mem then some (regs t, t.pc, t.cycles) else none
  | .fault _ | .refused _ => none

/-- The registers, PC, cycles and the bytes at some addresses after a step that records nothing. -/
def stored (s : State) (cells : List Nat) : Option (List Byte × Addr × Nat × List Byte) :=
  match step s with
  | .next t => if t.run = .running ∧ t.faults = [] then some (regs t, t.pc, t.cycles, cells.map t.mem.get) else none
  | .fault _ | .refused _ => none

/-- The registers, PC, cycles, run state and records after a step that keeps memory; each record is of the PC before. -/
def erred (s : State) : Option (List Byte × Addr × Nat × RunState × List Raise) :=
  match step s with
  | .next t =>
    if t.mem = s.mem ∧ t.faults.all (fun r => r.pc == s.pc) then
      some (regs t, t.pc, t.cycles, t.run, t.faults.map (fun r => r.raised))
    else none
  | .fault _ | .refused _ => none

theorem test_v1_1_lda_zp :
    registers (start Params.defaults [0x00, 0x00, 0x00, 0xFF, 0x04] 0xC000 [(0xC000, 0xA5), (0xC001, 0x10), (0x0010, 0x37)]) = some ([0x37, 0x00, 0x00, 0xFF, 0x04], 0xC002, 3) := by decide

theorem test_v1_2_lda_zpx_wraps_in_page_zero :
    registers (start Params.defaults [0x00, 0x20, 0x00, 0xFF, 0x04] 0xC000 [(0xC000, 0xB5), (0xC001, 0xF0), (0x0010, 0x99), (0x0110, 0x11)]) = some ([0x99, 0x20, 0x00, 0xFF, 0x84], 0xC002, 4) := by decide

theorem test_v1_3_ldx_zpy_wraps_in_page_zero :
    registers (start Params.defaults [0x00, 0x00, 0x02, 0xFF, 0x04] 0xC000 [(0xC000, 0xB6), (0xC001, 0xFF), (0x0001, 0x05)]) = some ([0x00, 0x05, 0x02, 0xFF, 0x04], 0xC002, 4) := by decide

theorem test_v1_4_lda_abs :
    registers (start Params.defaults [0x00, 0x00, 0x00, 0xFF, 0x04] 0xC000 [(0xC000, 0xAD), (0xC001, 0x34), (0xC002, 0x02), (0x0234, 0x01)]) = some ([0x01, 0x00, 0x00, 0xFF, 0x04], 0xC003, 4) := by decide

theorem test_v1_5_lda_absx_crosses_a_page :
    registers (start Params.defaults [0x00, 0x20, 0x00, 0xFF, 0x04] 0xC000 [(0xC000, 0xBD), (0xC001, 0xF0), (0xC002, 0x02), (0x0310, 0x7E)]) = some ([0x7E, 0x20, 0x00, 0xFF, 0x04], 0xC003, 4) := by decide

theorem test_v1_7_lda_indx_pre_indexed_default :
    registers (start Params.defaults [0x00, 0x04, 0x00, 0xFF, 0x04] 0xC000 [(0xC000, 0xA1), (0xC001, 0x20), (0x0024, 0x00), (0x0025, 0x03), (0x0300, 0xAB), (0x0020, 0x10), (0x0021, 0x03), (0x0314, 0xCD)]) = some ([0xAB, 0x04, 0x00, 0xFF, 0x84], 0xC002, 6) := by decide

theorem test_v1_8_lda_indx_indx_post_index_true :
    registers (start ({ Params.defaults with indxPostIndex := true }) [0x00, 0x04, 0x00, 0xFF, 0x04] 0xC000 [(0xC000, 0xA1), (0xC001, 0x20), (0x0024, 0x00), (0x0025, 0x03), (0x0300, 0xAB), (0x0020, 0x10), (0x0021, 0x03), (0x0314, 0xCD)]) = some ([0xCD, 0x04, 0x00, 0xFF, 0x84], 0xC002, 6) := by decide

theorem test_v1_10_lda_indy :
    registers (start Params.defaults [0x00, 0x00, 0x10, 0xFF, 0x04] 0xC000 [(0xC000, 0xB1), (0xC001, 0x40), (0x0040, 0xF8), (0x0041, 0x02), (0x0308, 0x42)]) = some ([0x42, 0x00, 0x10, 0xFF, 0x04], 0xC002, 5) := by decide

theorem test_v1_13_mirror_sta_0x0800_aliases_0x0000 :
    stored (start Params.defaults [0x5C, 0x00, 0x00, 0xFF, 0x04] 0xC000 [(0xC000, 0x8D), (0xC001, 0x00), (0xC002, 0x08)]) [0x0000] = some ([0x5C, 0x00, 0x00, 0xFF, 0x04], 0xC003, 4, [0x5C]) := by decide

theorem test_v1_16_read_of_an_unmapped_address_0x4018 :
    erred (start Params.defaults [0x00, 0x00, 0x00, 0xFF, 0x04] 0xC000 [(0xC000, 0xAD), (0xC001, 0x18), (0xC002, 0x40)]) = some ([0x00, 0x00, 0x00, 0xFF, 0x04], 0xC000, 0, (.halted .unmappedAddress), [.unmappedAddress 0x4018]) := by decide

theorem test_v1_20_opcode_fetch_from_unmapped_0x4018 :
    erred (start ({ Params.defaults with busError := .skip }) [0x00, 0x00, 0x00, 0xFF, 0x04] 0x4018 []) = some ([0x00, 0x00, 0x00, 0xFF, 0x04], 0x4018, 0, (.halted .unmappedAddress), [.unmappedAddress 0x4018]) := by decide

theorem test_v1_22_1_byte_instruction_at_0xffff_wraps_fall :
    registers (start Params.defaults [0x00, 0x00, 0x00, 0xFF, 0x04] 0xFFFF [(0xFFFF, 0xE8)]) = some ([0x00, 0x01, 0x00, 0xFF, 0x04], 0x0000, 2) := by decide

theorem test_v2_1_lda_0x42 :
    registers (start Params.defaults [0x00, 0x00, 0x00, 0xFF, 0x04] 0xC000 [(0xC000, 0xA9), (0xC001, 0x42)]) = some ([0x42, 0x00, 0x00, 0xFF, 0x04], 0xC002, 2) := by decide

theorem test_v2_3_lda_0x00_load_n_quirk_true :
    registers (start ({ Params.defaults with loadNQuirk := true }) [0x00, 0x00, 0x00, 0xFF, 0x04] 0xC000 [(0xC000, 0xA9), (0xC001, 0x00)]) = some ([0x00, 0x00, 0x00, 0xFF, 0x86], 0xC002, 2) := by decide

theorem test_v2_7_ldx_0xff :
    registers (start Params.defaults [0x00, 0x00, 0x00, 0xFF, 0x04] 0xC000 [(0xC000, 0xA2), (0xC001, 0xFF)]) = some ([0x00, 0xFF, 0x00, 0xFF, 0x84], 0xC002, 2) := by decide

theorem test_v2_8_ldy_abs_x :
    registers (start Params.defaults [0x00, 0x05, 0x00, 0xFF, 0x04] 0xC000 [(0xC000, 0xBC), (0xC001, 0x00), (0xC002, 0x03), (0x0305, 0x00)]) = some ([0x00, 0x05, 0x00, 0xFF, 0x06], 0xC003, 4) := by decide

theorem test_v2_9_sta_zp_does_not_touch_flags :
    registers (start Params.defaults [0x00, 0x00, 0x00, 0xFF, 0x80] 0xC000 [(0xC000, 0x85), (0xC001, 0x10)]) = some ([0x00, 0x00, 0x00, 0xFF, 0x80], 0xC002, 3) := by decide

theorem test_v2_10_stx_zp_y_wraps :
    stored (start Params.defaults [0x00, 0xAA, 0x02, 0xFF, 0x04] 0xC000 [(0xC000, 0x96), (0xC001, 0xFF)]) [0x0001] = some ([0x00, 0xAA, 0x02, 0xFF, 0x04], 0xC002, 4, [0xAA]) := by decide

theorem test_v2_11_sty_abs :
    stored (start Params.defaults [0x00, 0x00, 0x7F, 0xFF, 0x04] 0xC000 [(0xC000, 0x8C), (0xC001, 0x00), (0xC002, 0x06)]) [0x0600] = some ([0x00, 0x00, 0x7F, 0xFF, 0x04], 0xC003, 4, [0x7F]) := by decide

theorem test_v2_12_sta_y :
    stored (start Params.defaults [0x12, 0x00, 0x01, 0xFF, 0x04] 0xC000 [(0xC000, 0x91), (0xC001, 0x40), (0x0040, 0xFF), (0x0041, 0x02)]) [0x0300] = some ([0x12, 0x00, 0x01, 0xFF, 0x04], 0xC002, 6, [0x12]) := by decide

theorem test_v2_13_tax_of_0x00 :
    registers (start Params.defaults [0x00, 0x55, 0x00, 0xFF, 0x04] 0xC000 [(0xC000, 0xAA)]) = some ([0x00, 0x00, 0x00, 0xFF, 0x06], 0xC001, 2) := by decide

theorem test_v2_14_tay_of_0x80 :
    registers (start Params.defaults [0x80, 0x00, 0x00, 0xFF, 0x04] 0xC000 [(0xC000, 0xA8)]) = some ([0x80, 0x00, 0x80, 0xFF, 0x84], 0xC001, 2) := by decide

theorem test_v2_15_txa :
    registers (start Params.defaults [0xFF, 0x01, 0x00, 0xFF, 0x04] 0xC000 [(0xC000, 0x8A)]) = some ([0x01, 0x01, 0x00, 0xFF, 0x04], 0xC001, 2) := by decide

theorem test_v2_16_tya :
    registers (start Params.defaults [0x01, 0x00, 0x00, 0xFF, 0x04] 0xC000 [(0xC000, 0x98)]) = some ([0x00, 0x00, 0x00, 0xFF, 0x06], 0xC001, 2) := by decide

theorem test_v2_17_tsx_after_reset_sp :
    registers (start Params.defaults [0x00, 0x00, 0x00, 0xFF, 0x04] 0xC000 [(0xC000, 0xBA)]) = some ([0x00, 0xFF, 0x00, 0xFF, 0x84], 0xC001, 2) := by decide

theorem test_v2_18_txs_writes_no_flag :
    registers (start Params.defaults [0x00, 0x00, 0x00, 0xFF, 0x04] 0xC000 [(0xC000, 0x9A)]) = some ([0x00, 0x00, 0x00, 0x00, 0x04], 0xC001, 2) := by decide

theorem test_v3_1_pha :
    stored (start Params.defaults [0x33, 0x00, 0x00, 0xFF, 0x04] 0xC000 [(0xC000, 0x48)]) [0x01FF] = some ([0x33, 0x00, 0x00, 0xFE, 0x04], 0xC001, 3, [0x33]) := by decide

theorem test_v3_3_pha_stack_base_0x0000 :
    stored (start ({ Params.defaults with stackBase := .page0 }) [0x44, 0x00, 0x00, 0x10, 0x04] 0xC000 [(0xC000, 0x48)]) [0x0010] = some ([0x44, 0x00, 0x00, 0x0F, 0x04], 0xC001, 3, [0x44]) := by decide

theorem test_v3_4_php_right_after_reset :
    stored (start Params.defaults [0x00, 0x00, 0x00, 0xFF, 0x04] 0xC000 [(0xC000, 0x08)]) [0x01FF] = some ([0x00, 0x00, 0x00, 0xFE, 0x04], 0xC001, 3, [0x34]) := by decide

theorem test_v3_6_pla_of_0x80 :
    registers (start Params.defaults [0x00, 0x00, 0x00, 0xFE, 0x04] 0xC000 [(0xC000, 0x68), (0x01FF, 0x80)]) = some ([0x80, 0x00, 0x00, 0xFF, 0x84], 0xC001, 4) := by decide

theorem test_v3_8_plp_of_0xff_b_and_r_not :
    registers (start Params.defaults [0x00, 0x00, 0x00, 0xFE, 0x04] 0xC000 [(0xC000, 0x28), (0x01FF, 0xFF)]) = some ([0x00, 0x00, 0x00, 0xFF, 0xCF], 0xC001, 4) := by decide

theorem test_v3_9_plp_of_0x00_clears_i :
    registers (start Params.defaults [0x00, 0x00, 0x00, 0xFE, 0xCF] 0xC000 [(0xC000, 0x28), (0x01FF, 0x00)]) = some ([0x00, 0x00, 0x00, 0xFF, 0x00], 0xC001, 4) := by decide

theorem test_v4_1_adc_0x50_0x50_c_0 :
    registers (start Params.defaults [0x50, 0x00, 0x00, 0xFF, 0x04] 0xC000 [(0xC000, 0x69), (0xC001, 0x50)]) = some ([0xA0, 0x00, 0x00, 0xFF, 0xC4], 0xC002, 2) := by decide

theorem test_v4_5_adc_0xff_0xff_c_1 :
    registers (start Params.defaults [0xFF, 0x00, 0x00, 0xFF, 0x05] 0xC000 [(0xC000, 0x69), (0xC001, 0xFF)]) = some ([0xFF, 0x00, 0x00, 0xFF, 0x85], 0xC002, 2) := by decide

theorem test_v4_10_sbc_0x50_0xb0_c_1 :
    registers (start Params.defaults [0x50, 0x00, 0x00, 0xFF, 0x05] 0xC000 [(0xC000, 0xE9), (0xC001, 0xB0)]) = some ([0xA0, 0x00, 0x00, 0xFF, 0xC4], 0xC002, 2) := by decide

theorem test_v4_15_sbc_0x7f_0xff_c_1 :
    registers (start Params.defaults [0x7F, 0x00, 0x00, 0xFF, 0x05] 0xC000 [(0xC000, 0xE9), (0xC001, 0xFF)]) = some ([0x80, 0x00, 0x00, 0xFF, 0xC4], 0xC002, 2) := by decide

theorem test_v4_16_adc_abs_y :
    registers (start Params.defaults [0x01, 0x00, 0x02, 0xFF, 0x04] 0xC000 [(0xC000, 0x79), (0xC001, 0x00), (0xC002, 0x03), (0x0302, 0x02)]) = some ([0x03, 0x00, 0x02, 0xFF, 0x04], 0xC003, 4) := by decide

theorem test_v4_17_and :
    registers (start Params.defaults [0xF0, 0x00, 0x00, 0xFF, 0x04] 0xC000 [(0xC000, 0x29), (0xC001, 0x3C)]) = some ([0x30, 0x00, 0x00, 0xFF, 0x04], 0xC002, 2) := by decide

theorem test_v4_19_ora :
    registers (start Params.defaults [0x01, 0x00, 0x00, 0xFF, 0x04] 0xC000 [(0xC000, 0x09), (0xC001, 0x80)]) = some ([0x81, 0x00, 0x00, 0xFF, 0x84], 0xC002, 2) := by decide

theorem test_v4_20_eor_with_itself :
    registers (start Params.defaults [0x5A, 0x00, 0x00, 0xFF, 0x04] 0xC000 [(0xC000, 0x49), (0xC001, 0x5A)]) = some ([0x00, 0x00, 0x00, 0xFF, 0x06], 0xC002, 2) := by decide

theorem test_v4_22_cmp_a_0x40_m_0x30 :
    registers (start Params.defaults [0x40, 0x00, 0x00, 0xFF, 0x04] 0xC000 [(0xC000, 0xC9), (0xC001, 0x30)]) = some ([0x40, 0x00, 0x00, 0xFF, 0x05], 0xC002, 2) := by decide

theorem test_v4_29_cmp_a_0x40_m_0x30_cmp_carry :
    registers (start ({ Params.defaults with cmpCarryReversed := true }) [0x40, 0x00, 0x00, 0xFF, 0x04] 0xC000 [(0xC000, 0xC9), (0xC001, 0x30)]) = some ([0x40, 0x00, 0x00, 0xFF, 0x04], 0xC002, 2) := by decide

theorem test_v4_32_cpx_equal :
    registers (start Params.defaults [0x00, 0x05, 0x00, 0xFF, 0x04] 0xC000 [(0xC000, 0xE0), (0xC001, 0x05)]) = some ([0x00, 0x05, 0x00, 0xFF, 0x07], 0xC002, 2) := by decide

theorem test_v4_33_cpy_less :
    registers (start Params.defaults [0x00, 0x00, 0x02, 0xFF, 0x04] 0xC000 [(0xC000, 0xC0), (0xC001, 0x03)]) = some ([0x00, 0x00, 0x02, 0xFF, 0x84], 0xC002, 2) := by decide

theorem test_v4_34_cpx_zp :
    registers (start Params.defaults [0x00, 0x10, 0x00, 0xFF, 0x04] 0xC000 [(0xC000, 0xE4), (0xC001, 0x10), (0x0010, 0x0F)]) = some ([0x00, 0x10, 0x00, 0xFF, 0x05], 0xC002, 3) := by decide

theorem test_v4_35_bit_zp_n_v_from_memory :
    registers (start Params.defaults [0x01, 0x00, 0x00, 0xFF, 0x04] 0xC000 [(0xC000, 0x24), (0xC001, 0x10), (0x0010, 0xC1)]) = some ([0x01, 0x00, 0x00, 0xFF, 0xC4], 0xC002, 3) := by decide

theorem test_v4_37_bit_abs_on_0x00 :
    registers (start Params.defaults [0xFF, 0x00, 0x00, 0xFF, 0x04] 0xC000 [(0xC000, 0x2C), (0xC001, 0x00), (0xC002, 0x02), (0x0200, 0x00)]) = some ([0xFF, 0x00, 0x00, 0xFF, 0x06], 0xC003, 4) := by decide

theorem test_v5_1_inc_zp_0xff_wraps_c_unchanged :
    stored (start Params.defaults [0x00, 0x00, 0x00, 0xFF, 0x05] 0xC000 [(0xC000, 0xE6), (0xC001, 0x10), (0x0010, 0xFF)]) [0x0010] = some ([0x00, 0x00, 0x00, 0xFF, 0x07], 0xC002, 5, [0x00]) := by decide

theorem test_v5_3_dec_abs_0x01 :
    stored (start Params.defaults [0x00, 0x00, 0x00, 0xFF, 0x04] 0xC000 [(0xC000, 0xCE), (0xC001, 0x00), (0xC002, 0x02), (0x0200, 0x01)]) [0x0200] = some ([0x00, 0x00, 0x00, 0xFF, 0x06], 0xC003, 6, [0x00]) := by decide

theorem test_v5_4_dec_zp_x_0x00 :
    stored (start Params.defaults [0x00, 0x11, 0x00, 0xFF, 0x04] 0xC000 [(0xC000, 0xD6), (0xC001, 0xFF), (0x0010, 0x00)]) [0x0010] = some ([0x00, 0x11, 0x00, 0xFF, 0x84], 0xC002, 6, [0xFF]) := by decide

theorem test_v5_5_inc_abs_x_on_cart_cart_cpu :
    registers (start ({ Params.defaults with cartWrite := .ignore }) [0x00, 0x01, 0x00, 0xFF, 0x04] 0xC000 [(0xC000, 0xFE), (0xC001, 0x00), (0xC002, 0x80), (0x8001, 0xFF)]) = some ([0x00, 0x01, 0x00, 0xFF, 0x06], 0xC003, 7) := by decide

theorem test_v5_6_inc_abs_on_an_unmapped_address :
    erred (start Params.defaults [0x00, 0x00, 0x00, 0xFF, 0x04] 0xC000 [(0xC000, 0xEE), (0xC001, 0x18), (0xC002, 0x40)]) = some ([0x00, 0x00, 0x00, 0xFF, 0x04], 0xC000, 0, (.halted .unmappedAddress), [.unmappedAddress 0x4018]) := by decide

theorem test_v5_8_iny_0x7f :
    registers (start Params.defaults [0x00, 0x00, 0x7F, 0xFF, 0x04] 0xC000 [(0xC000, 0xC8)]) = some ([0x00, 0x00, 0x80, 0xFF, 0x84], 0xC001, 2) := by decide

theorem test_v5_9_dex_0x00 :
    registers (start Params.defaults [0x00, 0x00, 0x00, 0xFF, 0x04] 0xC000 [(0xC000, 0xCA)]) = some ([0x00, 0xFF, 0x00, 0xFF, 0x84], 0xC001, 2) := by decide

theorem test_v5_10_dey_0x01 :
    registers (start Params.defaults [0x00, 0x00, 0x01, 0xFF, 0x04] 0xC000 [(0xC000, 0x88)]) = some ([0x00, 0x00, 0x00, 0xFF, 0x06], 0xC001, 2) := by decide

theorem test_v5_11_asl_a_0xc1 :
    registers (start Params.defaults [0xC1, 0x00, 0x00, 0xFF, 0x04] 0xC000 [(0xC000, 0x0A)]) = some ([0x82, 0x00, 0x00, 0xFF, 0x85], 0xC001, 2) := by decide

theorem test_v5_13_asl_zp :
    stored (start Params.defaults [0x00, 0x00, 0x00, 0xFF, 0x04] 0xC000 [(0xC000, 0x06), (0xC001, 0x10), (0x0010, 0x41)]) [0x0010] = some ([0x00, 0x00, 0x00, 0xFF, 0x84], 0xC002, 5, [0x82]) := by decide

theorem test_v5_14_lsr_a_0x03 :
    registers (start Params.defaults [0x03, 0x00, 0x00, 0xFF, 0x04] 0xC000 [(0xC000, 0x4A)]) = some ([0x01, 0x00, 0x00, 0xFF, 0x05], 0xC001, 2) := by decide

theorem test_v5_16_rol_a_0x40_c_1 :
    registers (start Params.defaults [0x40, 0x00, 0x00, 0xFF, 0x05] 0xC000 [(0xC000, 0x2A)]) = some ([0x81, 0x00, 0x00, 0xFF, 0x84], 0xC001, 2) := by decide

theorem test_v5_17_rol_a_0x80_c_0 :
    registers (start Params.defaults [0x80, 0x00, 0x00, 0xFF, 0x04] 0xC000 [(0xC000, 0x2A)]) = some ([0x00, 0x00, 0x00, 0xFF, 0x07], 0xC001, 2) := by decide

theorem test_v5_18_rol_zp_0x00_c_1 :
    stored (start Params.defaults [0x00, 0x00, 0x00, 0xFF, 0x05] 0xC000 [(0xC000, 0x26), (0xC001, 0x10), (0x0010, 0x00)]) [0x0010] = some ([0x00, 0x00, 0x00, 0xFF, 0x04], 0xC002, 5, [0x01]) := by decide

theorem test_v5_19_ror_a_0x02_c_1 :
    registers (start Params.defaults [0x02, 0x00, 0x00, 0xFF, 0x05] 0xC000 [(0xC000, 0x6A)]) = some ([0x81, 0x00, 0x00, 0xFF, 0x84], 0xC001, 2) := by decide

theorem test_v5_20_ror_a_0x01_c_0 :
    registers (start Params.defaults [0x01, 0x00, 0x00, 0xFF, 0x04] 0xC000 [(0xC000, 0x6A)]) = some ([0x00, 0x00, 0x00, 0xFF, 0x07], 0xC001, 2) := by decide

theorem test_v5_21_ror_abs_x_0x00_c_1 :
    stored (start Params.defaults [0x00, 0x01, 0x00, 0xFF, 0x05] 0xC000 [(0xC000, 0x7E), (0xC001, 0x00), (0xC002, 0x03), (0x0301, 0x00)]) [0x0301] = some ([0x00, 0x01, 0x00, 0xFF, 0x84], 0xC003, 7, [0x80]) := by decide

theorem test_v6_1_bne_taken_offset_0x05 :
    registers (start Params.defaults [0x00, 0x00, 0x00, 0xFF, 0x04] 0xC000 [(0xC000, 0xD0), (0xC001, 0x05)]) = some ([0x00, 0x00, 0x00, 0xFF, 0x04], 0xC007, 2) := by decide

theorem test_v6_2_bne_not_taken_z_1 :
    registers (start Params.defaults [0x00, 0x00, 0x00, 0xFF, 0x06] 0xC000 [(0xC000, 0xD0), (0xC001, 0x05)]) = some ([0x00, 0x00, 0x00, 0xFF, 0x06], 0xC002, 2) := by decide

theorem test_v6_3_beq_taken :
    registers (start Params.defaults [0x00, 0x00, 0x00, 0xFF, 0x06] 0xC000 [(0xC000, 0xF0), (0xC001, 0x05)]) = some ([0x00, 0x00, 0x00, 0xFF, 0x06], 0xC007, 2) := by decide

theorem test_v6_4_bcc_taken_offset_0x10 :
    registers (start Params.defaults [0x00, 0x00, 0x00, 0xFF, 0x04] 0x8000 [(0x8000, 0x90), (0x8001, 0x10)]) = some ([0x00, 0x00, 0x00, 0xFF, 0x04], 0x8012, 2) := by decide

theorem test_v6_5_bcs_taken_offset_0xfe_branch_to_itself :
    registers (start Params.defaults [0x00, 0x00, 0x00, 0xFF, 0x05] 0x8000 [(0x8000, 0xB0), (0x8001, 0xFE)]) = some ([0x00, 0x00, 0x00, 0xFF, 0x05], 0x8000, 2) := by decide

theorem test_v6_6_bpl_taken_offset_0xfc :
    registers (start Params.defaults [0x00, 0x00, 0x00, 0xFF, 0x04] 0x8000 [(0x8000, 0x10), (0x8001, 0xFC)]) = some ([0x00, 0x00, 0x00, 0xFF, 0x04], 0x7FFE, 2) := by decide

theorem test_v6_7_bmi_not_taken :
    registers (start Params.defaults [0x00, 0x00, 0x00, 0xFF, 0x04] 0x8000 [(0x8000, 0x30), (0x8001, 0x10)]) = some ([0x00, 0x00, 0x00, 0xFF, 0x04], 0x8002, 2) := by decide

theorem test_v6_8_bmi_taken_wraps_at_16_bits :
    registers (start Params.defaults [0x00, 0x00, 0x00, 0xFF, 0x84] 0xFFF0 [(0xFFF0, 0x30), (0xFFF1, 0x7F)]) = some ([0x00, 0x00, 0x00, 0xFF, 0x84], 0x0071, 2) := by decide

theorem test_v6_9_bvc_taken :
    registers (start Params.defaults [0x00, 0x00, 0x00, 0xFF, 0x04] 0x8000 [(0x8000, 0x50), (0x8001, 0x02)]) = some ([0x00, 0x00, 0x00, 0xFF, 0x04], 0x8004, 2) := by decide

theorem test_v6_10_bvs_not_taken :
    registers (start Params.defaults [0x00, 0x00, 0x00, 0xFF, 0x04] 0x8000 [(0x8000, 0x70), (0x8001, 0x02)]) = some ([0x00, 0x00, 0x00, 0xFF, 0x04], 0x8002, 2) := by decide

theorem test_v6_13_jmp_abs :
    registers (start Params.defaults [0x00, 0x00, 0x00, 0xFF, 0x04] 0x8000 [(0x8000, 0x4C), (0x8001, 0x00), (0x8002, 0xC0)]) = some ([0x00, 0x00, 0x00, 0xFF, 0x04], 0xC000, 3) := by decide

theorem test_v6_14_jmp_page_wrap_default :
    registers (start Params.defaults [0x00, 0x00, 0x00, 0xFF, 0x04] 0xC000 [(0xC000, 0x6C), (0xC001, 0xFF), (0xC002, 0x02), (0x02FF, 0x34), (0x0200, 0x12), (0x0300, 0x56)]) = some ([0x00, 0x00, 0x00, 0xFF, 0x04], 0x1234, 5) := by decide

theorem test_v6_15_jmp_jmp_ind_page_wrap_false :
    registers (start ({ Params.defaults with jmpIndPageWrap := false }) [0x00, 0x00, 0x00, 0xFF, 0x04] 0xC000 [(0xC000, 0x6C), (0xC001, 0xFF), (0xC002, 0x02), (0x02FF, 0x34), (0x0200, 0x12), (0x0300, 0x56)]) = some ([0x00, 0x00, 0x00, 0xFF, 0x04], 0x5634, 5) := by decide

theorem test_v6_19_jsr :
    stored (start Params.defaults [0x00, 0x00, 0x00, 0xFF, 0x04] 0xC000 [(0xC000, 0x20), (0xC001, 0x00), (0xC002, 0xD0)]) [0x01FE, 0x01FF] = some ([0x00, 0x00, 0x00, 0xFD, 0x04], 0xD000, 6, [0x02, 0xC0]) := by decide

theorem test_v6_20_jsr_at_sp_0x00 :
    stored (start Params.defaults [0x00, 0x00, 0x00, 0x00, 0x04] 0xC000 [(0xC000, 0x20), (0xC001, 0x00), (0xC002, 0xD0)]) [0x0100, 0x01FF] = some ([0x00, 0x00, 0x00, 0xFE, 0x04], 0xD000, 6, [0xC0, 0x02]) := by decide

theorem test_v6_22_rts :
    registers (start Params.defaults [0x00, 0x00, 0x00, 0xFD, 0x04] 0xD000 [(0xD000, 0x60), (0x01FE, 0x02), (0x01FF, 0xC0)]) = some ([0x00, 0x00, 0x00, 0xFF, 0x04], 0xC003, 6) := by decide

theorem test_v6_23_rts_of_0xffff_wraps :
    registers (start Params.defaults [0x00, 0x00, 0x00, 0xFD, 0x04] 0xD000 [(0xD000, 0x60), (0x01FE, 0xFF), (0x01FF, 0xFF)]) = some ([0x00, 0x00, 0x00, 0xFF, 0x04], 0x0000, 6) := by decide

theorem test_v6_24_brk :
    stored (start Params.defaults [0x00, 0x00, 0x00, 0xFF, 0x04] 0xC100 [(0xC100, 0x00), (0xC101, 0x00), (0xFFFE, 0xF7), (0xFFFF, 0xC0)]) [0x01FD, 0x01FE, 0x01FF] = some ([0x00, 0x00, 0x00, 0xFC, 0x04], 0xC0F7, 7, [0x34, 0x02, 0xC1]) := by decide

theorem test_v6_27_rti :
    registers (start Params.defaults [0x00, 0x00, 0x00, 0xFC, 0x04] 0xC0F7 [(0xC0F7, 0x40), (0x01FD, 0x34), (0x01FE, 0x02), (0x01FF, 0xC1)]) = some ([0x00, 0x00, 0x00, 0xFF, 0x04], 0xC102, 6) := by decide

theorem test_v7_1_clc :
    registers (start Params.defaults [0x00, 0x00, 0x00, 0xFF, 0x05] 0xC000 [(0xC000, 0x18)]) = some ([0x00, 0x00, 0x00, 0xFF, 0x04], 0xC001, 2) := by decide

theorem test_v7_3_sec :
    registers (start Params.defaults [0x00, 0x00, 0x00, 0xFF, 0x04] 0xC000 [(0xC000, 0x38)]) = some ([0x00, 0x00, 0x00, 0xFF, 0x05], 0xC001, 2) := by decide

theorem test_v7_4_cli :
    registers (start Params.defaults [0x00, 0x00, 0x00, 0xFF, 0x04] 0xC000 [(0xC000, 0x58)]) = some ([0x00, 0x00, 0x00, 0xFF, 0x00], 0xC001, 2) := by decide

theorem test_v7_5_sei :
    registers (start Params.defaults [0x00, 0x00, 0x00, 0xFF, 0x00] 0xC000 [(0xC000, 0x78)]) = some ([0x00, 0x00, 0x00, 0xFF, 0x04], 0xC001, 2) := by decide

theorem test_v7_6_clv :
    registers (start Params.defaults [0x00, 0x00, 0x00, 0xFF, 0x44] 0xC000 [(0xC000, 0xB8)]) = some ([0x00, 0x00, 0x00, 0xFF, 0x04], 0xC001, 2) := by decide

theorem test_v7_7_cld :
    registers (start Params.defaults [0x00, 0x00, 0x00, 0xFF, 0x0C] 0xC000 [(0xC000, 0xD8)]) = some ([0x00, 0x00, 0x00, 0xFF, 0x04], 0xC001, 2) := by decide

theorem test_v7_8_sed :
    registers (start Params.defaults [0x00, 0x00, 0x00, 0xFF, 0x04] 0xC000 [(0xC000, 0xF8)]) = some ([0x00, 0x00, 0x00, 0xFF, 0x0C], 0xC001, 2) := by decide

theorem test_v7_9_nop :
    registers (start Params.defaults [0x00, 0x00, 0x00, 0xFF, 0x04] 0x8000 [(0x8000, 0xEA)]) = some ([0x00, 0x00, 0x00, 0xFF, 0x04], 0x8001, 2) := by decide

theorem test_v8_1_unimplemented_0x02_unimpl_policy_hard_stop :
    erred (start Params.defaults [0x11, 0x00, 0x00, 0xFF, 0x04] 0xC000 [(0xC000, 0x02)]) = some ([0x11, 0x00, 0x00, 0xFF, 0x04], 0xC000, 0, (.halted .unimplementedOpcode), [.unimplementedOpcode 0x02 0xC000]) := by decide

theorem test_v8_2_unimplemented_0x02_unimpl_policy_skip :
    erred (start ({ Params.defaults with unimpl := .skip }) [0x11, 0x00, 0x00, 0xFF, 0x04] 0xC000 [(0xC000, 0x02)]) = some ([0x11, 0x00, 0x00, 0xFF, 0x04], 0xC001, 2, .running, [.unimplementedOpcode 0x02 0xC000]) := by decide

theorem test_v8_3_unimplemented_0x0c_skip :
    erred (start ({ Params.defaults with unimpl := .skip }) [0x00, 0x00, 0x00, 0xFF, 0x04] 0xC000 [(0xC000, 0x0C), (0xC001, 0x00), (0xC002, 0x00)]) = some ([0x00, 0x00, 0x00, 0xFF, 0x04], 0xC003, 2, .running, [.unimplementedOpcode 0x0C 0xC000]) := by decide

theorem test_v8_5_unimplemented_0xff_at_0xfffe_bound_error_first :
    erred (start ({ Params.defaults with unimpl := .skip }) [0x00, 0x00, 0x00, 0xFF, 0x04] 0xFFFE [(0xFFFE, 0xFF), (0xFFFF, 0x00)]) = some ([0x00, 0x00, 0x00, 0xFF, 0x04], 0xFFFE, 0, (.halted .outOfBoundsAccess), [.outOfBoundsAccess 0xFFFE 3]) := by decide

theorem test_v8_6_unimplemented_0x07_with_operand_at_unmapped_0x4018 :
    erred (start ({ Params.defaults with unimpl := .skip }) [0x00, 0x00, 0x00, 0xFF, 0x04] 0x4017 [(0x4017, 0x07)]) = some ([0x00, 0x00, 0x00, 0xFF, 0x04], 0x4017, 0, (.halted .unmappedAddress), [.unmappedAddress 0x4018]) := by decide

theorem test_v8_7_sta_to_unmapped_bus_error_policy_skip :
    erred (start ({ Params.defaults with busError := .skip }) [0x01, 0x00, 0x00, 0xFF, 0x04] 0xC000 [(0xC000, 0x8D), (0xC001, 0x1F), (0xC002, 0x40)]) = some ([0x01, 0x00, 0x00, 0xFF, 0x04], 0xC003, 4, .running, [.unmappedAddress 0x401F]) := by decide
/-- 95_test_vectors.md S3: the vectors read little-endian, and reset starts at the reset vector. -/
theorem test_s3_reset_vector_round_trip :
    let s := hostReset (storeBytes (construct ({ Params.defaults with initialA := 0x12, initialX := 0x34, initialY := 0x56 })) 0xFFFC [0x00, 0xC0, 0xF7, 0xC0])
    readVector s brkVector = 0xC0F7 ∧ s.pc = 0xC000 ∧ regs s = [0x12, 0x34, 0x56, 0xFF, 0x04] ∧ s.cycles = 0 ∧
      s.run = .running := by decide

/-- `withFetchWord` places an instruction that the first step after reset runs (log 10). -/
theorem test_withFetchWord :
    (match step (State.reset.withFetchWord 16 0x42A9) with
      | .next t => t.a == 0x42 && t.pc == 0x0002
      | .fault _ | .refused _ => false) = true := by decide

/-- 60_exceptions.md R261: the end of a run at a boundary. -/
theorem test_runEnd :
    runEnd? (some 0x0000) false State.reset = some .reachedEndPc ∧ runEnd? none true State.reset = some .hostStopped ∧
      runEnd? none false State.reset = none ∧
      runEnd? none false (State.reset.setRun (.halted .unmappedAddress)) = some (.halted .unmappedAddress) := by decide

/-- 70_reset_and_hazards.md R272: PC is unobservable before the first reset, so END_PC ends nothing there (log 22). -/
theorem test_runEnd_before_reset :
    runEnd? (some 0x0000) false (construct Params.defaults) = none ∧
      runEnd? (some 0x0000) true (construct Params.defaults) = some .hostStopped := by decide

/-- INITIAL_MEMORY, listed out of order with a zero byte and a cell that does not exist (20_memory.md R61, log 9). -/
theorem test_construct_memory :
    (construct ({ Params.defaults with initialMemory := [(0xFFFD, 0xC0), (0x0010, 0x37), (0x0011, 0x00), (0x4018, 0x55)] })).mem =
      [(0x0010, 0x37), (0xFFFD, 0xC0)] := by decide

/-- The frame's parameters: a budget of 5 cycles. -/
def budget5 : Params := { Params.defaults with frameBudget := ⟨5, by decide⟩ }

/-- 60_exceptions.md R255: with a budget of 5, three NOPs of 2 cycles leave a credit of -1, and the frame takes no fourth. -/
theorem test_frame_overshoots :
    ((runFrame (fun _ => false) 9 (start budget5 [] 0xC000 [(0xC000, 0xEA), (0xC001, 0xEA), (0xC002, 0xEA), (0xC003, 0xEA)])).map
      (fun t => (t.pc, t.cycles, t.credit))) = some (0xC003, 6, -1) := by decide +kernel

/-- 60_exceptions.md R255: with every nominal cost 0, a frame of a loop to itself (4C 00 C0) does not end. -/
theorem test_frame_goes_on :
    (runFrame (fun _ => false) 4 (start ({ budget5 with nominalCycles := Vector.replicate 256 0 }) [] 0xC000
      [(0xC000, 0x4C), (0xC001, 0x00), (0xC002, 0xC0)])).isNone = true := by decide +kernel

/-- 60_exceptions.md R261: a run ends at the first boundary with PC = END_PC, though its frame has credit left. -/
theorem test_run_ends_at_endPc :
    ((runFrames (some 0xC002) (fun _ => false) 9 (start budget5 [] 0xC000 [(0xC000, 0xEA), (0xC001, 0xEA), (0xC002, 0xEA)])).map
      (fun r => (r.1, r.2.pc, r.2.cycles, r.2.credit))) = some (.reachedEndPc, 0xC002, 4, 1) := by decide +kernel

/-! ## Witnesses: a state and operands that meet a statement's hypotheses -/

/-- An operand is read, as a Boolean. -/
def readable (s : State) (o : ReadOperand) : Bool :=
  match o.value s with
  | .ok _ => true
  | .error _ => false

/-- An effective address is mapped, as a Boolean. -/
def mapped (s : State) (m : MemOperand) : Bool :=
  match m.ea s with
  | .ok ea => (s.decodeAddr ea).isSome
  | .error _ => false

/-- The effective address of an operand is unmapped, as a Boolean. -/
def unmapped (s : State) (m : MemOperand) : Bool :=
  match m.ea s with
  | .ok ea => (s.decodeAddr ea).isNone
  | .error _ => false

/-- A byte reads as a value, as a Boolean. -/
def reads (s : State) (a : Addr) (v : Byte) : Bool :=
  match memRead s a with
  | .ok w => w == v
  | .error _ => false

theorem memRead_of_reads {s : State} {a : Addr} {v : Byte} (h : reads s a v = true) : memRead s a = .ok v := by
  unfold reads at h
  split at h
  · rename_i w hw
    rw [hw, eq_of_beq h]
  · cases h

theorem operand_of_readable {s : State} {o : ReadOperand} (h : readable s o = true) : ∃ v, Operand s o v := by
  unfold readable at h
  split at h
  · rename_i v hv
    cases o with
    | imm k => exact ⟨k, rfl⟩
    | mem m =>
      obtain ⟨ea, hea, hr⟩ := bind_eq_ok.mp hv
      exact ⟨v, ea, hea, hr⟩
  · cases h

theorem store_of_mapped {s : State} {m : MemOperand} (h : mapped s m = true) :
    ∃ ea v, m.ea s = .ok ea ∧ s.decodeAddr ea ≠ none ∧ memRead s ea = .ok v := by
  unfold mapped at h
  split at h
  · rename_i ea hea
    obtain ⟨r, hr⟩ := Option.isSome_iff_exists.mp h
    exact ⟨ea, _, hea, by simp [hr], memRead_of_decode hr⟩
  · cases h

theorem ea_of_unmapped {s : State} {m : MemOperand} (h : unmapped s m = true) :
    ∃ ea, m.ea s = .ok ea ∧ s.decodeAddr ea = none := by
  unfold unmapped at h
  split at h
  · rename_i ea hea
    exact ⟨ea, hea, Option.isNone_iff_eq_none.mp h⟩
  · cases h

/-- Forms whose operands are all read have operand bytes. -/
theorem operands_of_all {s : State} {l : List (Instr × ReadOperand)}
    (h : l.all (fun io => readable s io.2) = true) : ∀ io ∈ l, ∃ v, Operand s io.2 v :=
  fun io hio => operand_of_readable (List.all_eq_true.mp h io hio)

theorem stores_of_all {s : State} {l : List (Instr × MemOperand)} (h : l.all (fun io => mapped s io.2) = true) :
    ∀ io ∈ l, ∃ ea v, io.2.ea s = .ok ea ∧ s.decodeAddr ea ≠ none ∧ memRead s ea = .ok v :=
  fun io hio => store_of_mapped (List.all_eq_true.mp h io hio)

/-- A state with X = 0x20 and Y = 0x10, a pointer at 0x0030 and one at 0x0010, and data behind them. -/
def sample : State :=
  start Params.defaults [0x7F, 0x20, 0x10, 0xFD, 0x05] 0xC000
    [(0x0030, 0x00), (0x0031, 0x03), (0x0010, 0xF8), (0x0011, 0x02), (0x0300, 0x81), (0x0308, 0x42)]

theorem witness_LdaLoadsAccumulator : ∀ io ∈ ldaForms 0x80 0x10 0xFFF0, ∃ v, Operand sample io.2 v :=
  operands_of_all (by decide)
theorem witness_LdxLdyLoadIndexRegisters :
    (∀ io ∈ ldxForms 0x80 0xFF 0x07FF, ∃ v, Operand sample io.2 v) ∧
      (∀ io ∈ ldyForms 0x00 0xFF 0x07FF, ∃ v, Operand sample io.2 v) :=
  ⟨operands_of_all (by decide), operands_of_all (by decide)⟩
theorem witness_StaStoresAccumulator :
    ∀ io ∈ staForms 0x10 0x1FDF, ∃ ea v, io.2.ea sample = .ok ea ∧ sample.decodeAddr ea ≠ none ∧ memRead sample ea = .ok v :=
  stores_of_all (by decide)
theorem witness_StxStyStoreIndexRegisters :
    (∀ io ∈ stxForms 0xFF 0x4017, ∃ ea v, io.2.ea sample = .ok ea ∧ sample.decodeAddr ea ≠ none ∧ memRead sample ea = .ok v) ∧
      (∀ io ∈ styForms 0xFF 0x4020, ∃ ea v, io.2.ea sample = .ok ea ∧ sample.decodeAddr ea ≠ none ∧ memRead sample ea = .ok v) :=
  ⟨stores_of_all (by decide), stores_of_all (by decide)⟩
theorem witness_AdcAddsWithCarry :
    (∀ io ∈ adcForms 0x7F 0x10 0x0300, ∃ v, Operand sample io.2 v) ∧
      ¬ (sample.p.d = true ∧ sample.params.decimal = .fault) :=
  ⟨operands_of_all (by decide), by decide⟩
theorem witness_SbcSubtractsWithBorrow :
    (∀ io ∈ sbcForms 0xFF 0x10 0x0300, ∃ v, Operand sample io.2 v) ∧
      ¬ (sample.p.d = true ∧ sample.params.decimal = .fault) :=
  ⟨operands_of_all (by decide), by decide⟩

/-- D is set, under DECIMAL_POLICY = fault. -/
def decimalSample : State := start ({ Params.defaults with decimal := .fault }) [0x09, 0x20, 0x10, 0xFF, 0x0C] 0xC000 []

theorem witness_AdcSbc_under_decimal_fault :
    (∀ io ∈ adcForms 0x09 0x10 0x0300 ++ sbcForms 0x09 0x10 0x0300, ∃ v, Operand decimalSample io.2 v) ∧
      decimalSample.p.d = true ∧ decimalSample.params.decimal = .fault :=
  ⟨operands_of_all (by decide), by decide, by decide⟩
theorem witness_LogicActsOnAccumulator :
    (∀ io ∈ andForms 0x80 0x10 0x0300, ∃ v, Operand sample io.2 v) ∧
      (∀ io ∈ oraForms 0x80 0x10 0x0300, ∃ v, Operand sample io.2 v) ∧
      (∀ io ∈ eorForms 0x80 0x10 0x0300, ∃ v, Operand sample io.2 v) :=
  ⟨operands_of_all (by decide), operands_of_all (by decide), operands_of_all (by decide)⟩
theorem witness_ComparesWriteFlagsOnly :
    (∀ io ∈ cmpForms 0x80 0x10 0x0300, ∃ v, Operand sample io.2 v) ∧
      (∀ io ∈ cpxForms 0x20 0x10 0x0300, ∃ v, Operand sample io.2 v) ∧
      (∀ io ∈ cpyForms 0x11 0x10 0x0300, ∃ v, Operand sample io.2 v) :=
  ⟨operands_of_all (by decide), operands_of_all (by decide), operands_of_all (by decide)⟩
theorem witness_BitTestsOperandBits : ∀ io ∈ bitForms 0x10 0x0300, ∃ v, Operand sample io.2 v :=
  operands_of_all (by decide)
theorem witness_IncDecModifyMemory :
    (∀ io ∈ incForms 0xFF 0x07FF, ∃ ea v, io.2.ea sample = .ok ea ∧ sample.decodeAddr ea ≠ none ∧ memRead sample ea = .ok v) ∧
      (∀ io ∈ decForms 0xFF 0x8000, ∃ ea v, io.2.ea sample = .ok ea ∧ sample.decodeAddr ea ≠ none ∧ memRead sample ea = .ok v) :=
  ⟨stores_of_all (by decide), stores_of_all (by decide)⟩
theorem witness_ShiftsMoveABitToCarry :
    (∀ io ∈ aslForms 0x10 0x0300, ∃ ea v, io.2.ea sample = .ok ea ∧ sample.decodeAddr ea ≠ none ∧ memRead sample ea = .ok v) ∧
      (∀ io ∈ lsrForms 0x10 0x0300, ∃ ea v, io.2.ea sample = .ok ea ∧ sample.decodeAddr ea ≠ none ∧ memRead sample ea = .ok v) :=
  ⟨stores_of_all (by decide), stores_of_all (by decide)⟩
theorem witness_RotatesPassThroughCarry :
    (∀ io ∈ rolForms 0x10 0x0300, ∃ ea v, io.2.ea sample = .ok ea ∧ sample.decodeAddr ea ≠ none ∧ memRead sample ea = .ok v) ∧
      (∀ io ∈ rorForms 0x10 0x0300, ∃ ea v, io.2.ea sample = .ok ea ∧ sample.decodeAddr ea ≠ none ∧ memRead sample ea = .ok v) :=
  ⟨stores_of_all (by decide), stores_of_all (by decide)⟩

/-- Each branch has a state where it is taken and one where it is not. -/
theorem witness_BranchesAddOffsetAfterAdvance :
    (branchForms 0x80 (flagsOf 0xC3)).map (fun ic => ic.2) = [false, true, true, true, false, false, false, true] ∧
      (branchForms 0x7F (flagsOf 0x00)).map (fun ic => ic.2) = [true, false, false, false, true, true, true, false] := by decide

/-- The parameters with JMP_IND_PAGE_WRAP = false. -/
def noWrap : Params := { Params.defaults with jmpIndPageWrap := false }

/-- A pointer across a page, with the page wrap and without it (V6.14, V6.15). -/
theorem witness_JmpReplacesProgramCounter :
    (∃ s : State, s.params.jmpIndPageWrap = true ∧ memRead s 0x02FF = .ok 0x34 ∧
      memRead s (BitVec.ofNat 16 (256 * ((0x02FF : Addr).toNat / 256) + ((0x02FF : Addr).toNat + 1) % 256)) = .ok 0x12) ∧
    (∃ s : State, s.params.jmpIndPageWrap = false ∧ memRead s 0x02FF = .ok 0x34 ∧
      memRead s ((0x02FF : Addr) + 1) = .ok 0x56) :=
  ⟨⟨start Params.defaults [] 0xC000 [(0x02FF, 0x34), (0x0200, 0x12), (0x0300, 0x56)], by decide,
      memRead_of_reads (by decide), memRead_of_reads (by decide)⟩,
    ⟨start noWrap [] 0xC000 [(0x02FF, 0x34), (0x0200, 0x12), (0x0300, 0x56)], by decide,
      memRead_of_reads (by decide), memRead_of_reads (by decide)⟩⟩

/-- A pointer at 0xFFFF, one at 0x4018, and one whose high byte is at 0x4018 (V6.16 to V6.18); and 0xFFFF is mapped, so the
first clause and the second exclude each other. -/
theorem witness_JmpReplacesProgramCounter_errors :
    (start noWrap [] 0xC000 []).params.jmpIndPageWrap = false ∧
    sample.decodeAddr 0x4018 = none ∧
    (sample.params.jmpIndPageWrap = true ∧ sample.decodeAddr 0x4017 ≠ none ∧
      sample.decodeAddr (BitVec.ofNat 16 (256 * ((0x4017 : Addr).toNat / 256) + ((0x4017 : Addr).toNat + 1) % 256)) = none) ∧
    sample.decodeAddr 0xFFFF ≠ none := by decide

theorem witness_FlagsChangeOnlyByTheirWriters :
    ∃ t, exec .nop sample = .next t ∧ Instr.nop.mnemonic ∉ [Mnemonic.sed, .cld, .plp, .rti] := ⟨_, rfl, by decide⟩
theorem witness_RegistersAndMemoryChangeOnlyByTheirWriters :
    ∃ t, exec (.ldxImm 0x05) sample = .next t ∧ (Instr.ldxImm 0x05).cls ≠ .store ∧ (Instr.ldxImm 0x05).mode ≠ .acc :=
  ⟨_, rfl, by decide, by decide⟩

/-- A pointer that wraps in page zero: with X = 0x20 and operand 0xDF it is at 0x00FF and 0x0000 (V1.9, V1.11). -/
theorem witness_EffectiveAddressesByMode :
    (sample.params.indxPostIndex = false ∧ memRead sample (zp ((0xDF : Byte).toNat + sample.x.toNat)) = .ok 0x00 ∧
      memRead sample (zp ((0xDF : Byte).toNat + sample.x.toNat + 1)) = .ok 0x00) ∧
    (∃ s : State, s.params.indxPostIndex = true ∧ memRead s (zp (0xFF : Byte).toNat) = .ok 0x10 ∧
      memRead s (zp ((0xFF : Byte).toNat + 1)) = .ok 0x03) ∧
    (memRead sample (zp (0x30 : Byte).toNat) = .ok 0x00 ∧ memRead sample (zp ((0x30 : Byte).toNat + 1)) = .ok 0x03) :=
  ⟨⟨by decide, memRead_of_reads (by decide), memRead_of_reads (by decide)⟩,
    ⟨start ({ Params.defaults with indxPostIndex := true }) [] 0xC000 [(0x00FF, 0x10), (0x0000, 0x03)], by decide,
      memRead_of_reads (by decide), memRead_of_reads (by decide)⟩,
    ⟨memRead_of_reads (by decide), memRead_of_reads (by decide)⟩⟩

/-- Pointers to the hole at 0x4018 to 0x401F. -/
def holeSample : State :=
  start Params.defaults [0x01, 0x02, 0x03, 0xFF, 0x04] 0xC000 [(0x0012, 0x18), (0x0013, 0x40), (0x0010, 0x15), (0x0011, 0x40)]

/-- A form whose effective address is unmapped, for each family of the read class. -/
theorem witness_ReadForms :
    ∀ l ∈ [ldaForms 0x00 0x10 0x401C, ldxForms 0x00 0x10 0x401C, ldyForms 0x00 0x10 0x401C, adcForms 0x00 0x10 0x401C,
        sbcForms 0x00 0x10 0x401C, andForms 0x00 0x10 0x401C, oraForms 0x00 0x10 0x401C, eorForms 0x00 0x10 0x401C,
        cmpForms 0x00 0x10 0x401C, cpxForms 0x00 0x10 0x401C, cpyForms 0x00 0x10 0x401C, bitForms 0x10 0x401C],
      ∃ io ∈ l, ∃ m, io.2 = .mem m ∧ ∃ ea, m.ea holeSample = .ok ea ∧ holeSample.decodeAddr ea = none := by
  intro l hl
  have h := List.all_eq_true.mp (by decide : ([ldaForms 0x00 0x10 0x401C, ldxForms 0x00 0x10 0x401C, ldyForms 0x00 0x10 0x401C,
    adcForms 0x00 0x10 0x401C, sbcForms 0x00 0x10 0x401C, andForms 0x00 0x10 0x401C, oraForms 0x00 0x10 0x401C,
    eorForms 0x00 0x10 0x401C, cmpForms 0x00 0x10 0x401C, cpxForms 0x00 0x10 0x401C, cpyForms 0x00 0x10 0x401C,
    bitForms 0x10 0x401C] : List (List (Instr × ReadOperand))).all (fun l => l.any (fun io => io.2 == .mem (.abs 0x401C))) = true) l hl
  obtain ⟨io, hio, he⟩ := List.any_eq_true.mp h
  exact ⟨io, hio, .abs 0x401C, eq_of_beq he, ea_of_unmapped (by decide)⟩

/-- A form whose effective address is unmapped, for each family that stores or modifies memory. -/
theorem witness_MemForms :
    ∀ l ∈ [staForms 0x10 0x401F, stxForms 0x10 0x401F, styForms 0x10 0x401F, incForms 0x10 0x401F, decForms 0x10 0x401F,
        aslForms 0x10 0x401F, lsrForms 0x10 0x401F, rolForms 0x10 0x401F, rorForms 0x10 0x401F],
      ∃ io ∈ l, ∃ ea, io.2.ea holeSample = .ok ea ∧ holeSample.decodeAddr ea = none := by
  intro l hl
  have h := List.all_eq_true.mp (by decide : ([staForms 0x10 0x401F, stxForms 0x10 0x401F, styForms 0x10 0x401F,
    incForms 0x10 0x401F, decForms 0x10 0x401F, aslForms 0x10 0x401F, lsrForms 0x10 0x401F, rolForms 0x10 0x401F,
    rorForms 0x10 0x401F] : List (List (Instr × MemOperand))).all (fun l => l.any (fun io => unmapped holeSample io.2)) = true) l hl
  obtain ⟨io, hio, he⟩ := List.any_eq_true.mp h
  exact ⟨io, hio, ea_of_unmapped he⟩

/-- The indexed and indirect forms reach the hole too. -/
theorem witness_unmapped_by_mode :
    ∀ m ∈ [MemOperand.absx 0x4016, .absy 0x401C, .indx 0x10, .indy 0x10],
      ∃ ea, m.ea holeSample = .ok ea ∧ holeSample.decodeAddr ea = none :=
  fun m hm => ea_of_unmapped (List.all_eq_true.mp (by decide : ([MemOperand.absx 0x4016, .absy 0x401C, .indx 0x10,
    .indy 0x10] : List MemOperand).all (fun m => unmapped holeSample m) = true) m hm)

/-- A three-byte instruction whose last byte is at 0xFFFF. -/
def topSample : State := start Params.defaults [] 0xFFFD [(0xFFFD, 0x4C), (0xFFFE, 0x00), (0xFFFF, 0xC0)]

theorem witness_StepRunsDecodedInstruction :
    topSample.run = .running ∧ topSample.pc.toNat + (encode (.jmpAbs 0xC000)).length ≤ 0x10000 ∧
      ∀ (k : Nat) (h : k < (encode (.jmpAbs 0xC000)).length),
        memRead topSample (topSample.pc + BitVec.ofNat 16 k) = .ok ((encode (.jmpAbs 0xC000))[k]'h) := by
  refine ⟨by decide, by decide, fun k h => ?_⟩
  match k, h with
  | 0, _ => exact memRead_of_reads (v := 0x4C) (by decide)
  | 1, _ => exact memRead_of_reads (v := 0x00) (by decide)
  | 2, _ => exact memRead_of_reads (v := 0xC0) (by decide)

/-- V1.20, V1.21, V8.6, and a high operand byte at 0x4018. -/
theorem witness_FetchErrorsHalt :
    (start Params.defaults [] 0x4018 []).decodeAddr 0x4018 = none ∧
    (memRead (start Params.defaults [] 0xFFFE [(0xFFFE, 0xAD)]) 0xFFFE = .ok 0xAD ∧ 0xFFFF < 0xFFFE + oplen 0xAD) ∧
    (memRead (start Params.defaults [] 0x4017 [(0x4017, 0x07)]) 0x4017 = .ok 0x07 ∧ 1 ≤ oplen 0x07 ∧
      (start Params.defaults [] 0x4017 []).decodeAddr (0x4017 + 1) = none) ∧
    (memRead (start Params.defaults [] 0x4016 [(0x4016, 0xAD)]) 0x4016 = .ok 0xAD ∧ oplen 0xAD = 2 ∧
      (start Params.defaults [] 0x4016 []).decodeAddr (0x4016 + 1) ≠ none ∧
      (start Params.defaults [] 0x4016 []).decodeAddr (0x4016 + 2) = none) :=
  ⟨by decide, ⟨memRead_of_reads (by decide), by decide⟩, ⟨memRead_of_reads (by decide), by decide, by decide⟩,
    ⟨memRead_of_reads (by decide), by decide, by decide, by decide⟩⟩

/-- Opcode 0xFF, whose last operand byte is at 0xFFFF, and 0x02, which has none. -/
theorem witness_UnimplementedOpcodesReachSentinel :
    ((0xFF : Byte), 2) ∈ sentinelLengths ∧ ((0x02 : Byte), 0) ∈ sentinelLengths ∧
    (∃ s : State, s.run = .running ∧ memRead s s.pc = .ok 0xFF ∧ s.pc.toNat + 2 ≤ 0xFFFF ∧
      ∀ k, 1 ≤ k → k ≤ 2 → s.decodeAddr (s.pc + BitVec.ofNat 16 k) ≠ none) := by
  refine ⟨by decide, by decide, start Params.defaults [] 0xFFFD [(0xFFFD, 0xFF)], by decide,
    memRead_of_reads (by decide), by decide, fun k h1 h2 => ?_⟩
  have hk : k = 1 ∨ k = 2 := by omega
  rcases hk with rfl | rfl <;> decide

theorem witness_NoStepUnlessRunning :
    (construct Params.defaults).run = .reset ∧
      (State.reset.setRun (.halted .unmappedAddress)).run = .halted .unmappedAddress := by decide
theorem witness_RunningMachineAlwaysSteps : State.reset.run = .running := rfl

/-- A step answers a next state with a property, as a Boolean. -/
def stepsTo (s : State) (f : State → Bool) : Bool :=
  match step s with
  | .next t => f t
  | .fault _ | .refused _ => false

theorem next_of_stepsTo {s : State} {f : State → Bool} (h : stepsTo s f = true) : ∃ t, step s = .next t ∧ f t = true := by
  unfold stepsTo at h
  split at h
  · rename_i t ht
    exact ⟨t, ht, h⟩
  · cases h
  · cases h

/-- A step that records nothing, one that halts and one that skips. -/
theorem witness_ErrorsArePreciseAndRecordedOnce :
    (∃ t, step sample = .next t ∧ t.faults.isEmpty = true) ∧
    (∃ t, step (start Params.defaults [] 0xC000 [(0xC000, 0x02)]) = .next t ∧
      (t.run == .halted .unimplementedOpcode && t.faults.length == 1) = true) ∧
    (∃ t, step (start ({ Params.defaults with unimpl := .skip }) [] 0xC000 [(0xC000, 0x02)]) = .next t ∧
      (t.run == .running && t.faults.length == 1 && t.pc == 0xC001) = true) :=
  ⟨next_of_stepsTo (by decide), next_of_stepsTo (by decide), next_of_stepsTo (by decide)⟩
theorem witness_CyclesAddNominalCost :
    (∃ t, step sample = .next t ∧ (t.run == .running) = true) ∧
    (∃ t, step (start Params.defaults [] 0xC000 [(0xC000, 0x02)]) = .next t ∧ (t.run != .running) = true) :=
  ⟨next_of_stepsTo (by decide), next_of_stepsTo (by decide)⟩
theorem witness_StepKeepsParametersAndStoredBits : ∃ t, step sample = .next t ∧ (t.run == .running) = true :=
  next_of_stepsTo (by decide)

/-- Two states that differ in the stored Reserved and Break flags, the counter, the records and the credit. -/
theorem witness_UnreadStateIsInert :
    (∃ t : State, sample.cycles ≠ t.cycles ∧ sample.p.b ≠ t.p.b ∧ Alike sample t) ∧
      ∃ u, step sample = .next u ∧ (u.run == .running) = true :=
  ⟨⟨{ sample with
      p := { sample.p with r := true, b := true }, cycles := 7, credit := 3,
      faults := [⟨.unmappedAddress 0x4018, 0xC000, some 0xAD⟩] }, by decide, by decide, rfl⟩, next_of_stepsTo (by decide)⟩
theorem witness_StepKeepsInvariant : sample.inv = true ∧ ∃ t, step sample = .next t ∧ (t.run == .running) = true :=
  ⟨by decide, next_of_stepsTo (by decide)⟩
theorem witness_EncodeDecodeRoundTrip : decode [0x20, 0x00, 0xD0, 0x60] = .ok (.jsr 0xD000, [0x60]) := rfl
theorem witness_LengthTableAgreesWithDispatch :
    decodeOp 0x00 0xEA 0x00 = some (.brk 0xEA) ∧ decodeOp 0xBE 0xFF 0xFF = some (.ldxAbsy 0xFFFF) := by decide

/-- Targets at both ends of a branch's reach, and one past each. -/
theorem witness_AssemblerEncodesBranchOffset :
    (((0xC000 : Addr).toNat : Int) + 2 - 128 ≤ (0xBF82 : Nat) ∧ ((0xC081 : Nat) : Int) ≤ (0xC000 : Addr).toNat + 2 + 127) ∧
    ¬ (((0xC000 : Addr).toNat : Int) + 2 - 128 ≤ (0xBF81 : Nat)) ∧
    ¬ (((0xC082 : Nat) : Int) ≤ (0xC000 : Addr).toNat + 2 + 127) := by decide
theorem witness_AddressDecodeIsTotalAndCoversRegions :
    busDecode false 0x2007 = some (.ppureg, 7) ∧ busDecode false 0x2008 = none ∧ busDecode true 0x3FFF = some (.ppureg, 7) ∧
      busDecode true 0x401F = none ∧ busDecode false 0xFFFF = some (.cart, 0xBFDF) := by decide

/-- S2.9: the fourth alias of the last byte, and the first. -/
theorem witness_WorkRamAliasesShareOneByte :
    0x07FF < 0x0800 ∧ 3 < 4 ∧ (0x2000 : Addr).toNat > 0x1FFF ∧ (0x07FE : Addr).toNat % 0x0800 ≠ 0x07FF := by decide
theorem witness_SixteenBitAccessesAreLittleEndian :
    ((0x4018 : Addr) ≠ 0xFFFF ∧ sample.decodeAddr 0x4018 = none) ∧
    (sample.decodeAddr 0x4017 ≠ none ∧ sample.decodeAddr (0x4017 + 1) = none) ∧
    (sample.decodeAddr 0xFFFE ≠ none ∧ sample.decodeAddr (0xFFFE + 1) ≠ none) ∧
    (memRead sample 0x0030 = .ok 0x00 ∧ memRead sample (0x0030 + 1) = .ok 0x03) :=
  ⟨by decide, by decide, by decide, memRead_of_reads (by decide), memRead_of_reads (by decide)⟩
theorem witness_ByteWritesAreReadBack :
    sample.decodeAddr 0x401F = none ∧ sample.decodeAddr 0x4020 ≠ none ∧ sample.decodeAddr 0x1FFF ≠ none := by decide

/-- A range that ends at 0xFFFF, one that passes it, and one whose second byte is unmapped. -/
theorem witness_BulkWriteIsAllOrNothing :
    ((0xFFFE : Addr).toNat + [(0x01 : Byte), 0x02].length ≤ 0x10000 ∧
      ∀ k < [(0x01 : Byte), 0x02].length, sample.decodeAddr (0xFFFE + BitVec.ofNat 16 k) ≠ none) ∧
    0x10000 < (0xFFFF : Addr).toNat + [(0x01 : Byte), 0x02].length ∧
    (sample.decodeAddr (0x4017 + BitVec.ofNat 16 1) = none ∧
      ∀ j < 1, sample.decodeAddr (0x4017 + BitVec.ofNat 16 j) ≠ none) := by decide
theorem witness_CanonicalMemoriesAreEqualWhenReadAlike :
    Memory.wf [(0x0000, 0x01), (0xFFFF, 0x02)] = true ∧
      (∀ k, Memory.get [(0x0000, 0x01), (0xFFFF, 0x02)] k =
        Memory.get (Memory.put (Memory.put [] 0xFFFF 0x02) 0x0000 0x01) k) := ⟨by decide, fun _ => rfl⟩
theorem witness_BootStartsAtLoadedVector :
    Params.defaults.cartLoadBase = 0xC000 ∧ (List.replicate 0x4000 (0x00 : Byte)).length = 0x4000 ∧
      (List.replicate 0x8000 (0x00 : Byte)).length = 0x8000 :=
  ⟨rfl, List.length_replicate, List.length_replicate⟩
/-- One NOP in a frame of 2 cycles, after which the frame ends. -/
def nopFrame : State := start ({ Params.defaults with frameBudget := ⟨2, by decide⟩ }) [] 0xC000 [(0xC000, 0xEA)]

theorem nopFrame_ends : (runFrame (fun _ => false) 1 nopFrame).isSome = true := by decide +kernel

theorem witness_FrameSpendsItsCredit :
    (∃ t, runFrame (fun _ => false) 1 nopFrame = some t) ∧ ∀ op : Byte, 1 ≤ nominalCost nopFrame.params op :=
  ⟨Option.isSome_iff_exists.mp nopFrame_ends, by decide +kernel⟩

/-- Each action completes somewhere: a boot, an instruction, a step, the three writes and a frame. -/
theorem witness_NoActionChangesAParameter :
    (∃ t, boot Params.defaults [0xEA] = .ok t) ∧ (∃ t, exec .nop sample = .next t) ∧
    (∃ t, step sample = .next t ∧ (t.run == .running) = true) ∧ (∃ t, memWrite sample 0xFFFF 0x01 = .ok t) ∧
    (∃ t, memWrite16 sample 0xFFFE 0x0102 = .ok t) ∧ (∃ t, bulkWrite sample 0xFFFF [0x01] = .ok t) ∧
    ∃ t, FrameEnds (fun _ => false) nopFrame t :=
  ⟨⟨_, rfl⟩, ⟨_, rfl⟩, next_of_stepsTo (by decide), ⟨_, rfl⟩, ⟨_, rfl⟩, ⟨_, rfl⟩,
    (Option.isSome_iff_exists.mp nopFrame_ends).imp fun _ ht => ⟨1, ht⟩⟩

/-- A run that ends, and a state for each clause; the clauses exclude each other by `run` and PC. -/
theorem witness_RunEndsAtFirstBoundary :
    (∃ r, runFrames (some 0xC000) (fun _ => false) 0 nopFrame = some r) ∧
    (State.reset.setRun (.halted .unmappedAddress)).run = .halted .unmappedAddress ∧
    (nopFrame.run = .running ∧ some 0xC000 = some nopFrame.pc) ∧
    (nopFrame.run = .running ∧ (none : Option Addr) ≠ some nopFrame.pc) ∧ (construct Params.defaults).run = .reset :=
  ⟨⟨_, rfl⟩, rfl, ⟨rfl, rfl⟩, ⟨rfl, by decide⟩, rfl⟩

end Sys2Proof.Tests
end

section
/-! PROOFS. Scope (00_scope.md): what the end of a step leaves alone, said once for an instruction that completes and for
an error that is taken; and the one parameter record, which no instruction, step, reset, write, frame or run changes. -/

namespace Sys2Proof.Machine

/-! ## The end of a step -/

/-- What the end of a step leaves as it was: the parameters, the credit, the stored Reserved and Break flags, and the run
state unless it halts (00_scope.md R3, 10_state.md R17, R23). -/
structure StepFrame (s t : State) : Prop where
  params : t.params = s.params
  credit : t.credit = s.credit
  r : t.p.r = s.p.r
  b : t.p.b = s.p.b
  run : t.run = s.run ∨ ∃ k, t.run = .halted k

theorem haltOn_stepFrame (e : Raise) (op : Option Byte) (s : State) : StepFrame s (haltOn e op s) :=
  ⟨rfl, rfl, rfl, rfl, .inr ⟨e.kind, rfl⟩⟩

theorem skipOn_stepFrame (e : Raise) (op : Byte) (s : State) : StepFrame s (skipOn e op s) :=
  ⟨rfl, rfl, rfl, rfl, .inl rfl⟩

theorem takeError_stepFrame (e : Raise) (op : Byte) (s : State) : StepFrame s (takeError e op s) := by
  unfold takeError
  split
  · exact skipOn_stepFrame e op s
  · exact haltOn_stepFrame e (some op) s

/-- A body's own frame, with PC set before it and the cycles after it, is the step's. -/
theorem Kept.stepFrame {s t : State} {w : Addr} (h : Kept (s.setPc w) t) (n : Nat) : StepFrame s (t.setCycles n) :=
  ⟨h.params, h.credit, h.r, h.b, .inl h.run⟩

theorem exec_stepFrame {i : Instr} {s t : State} (h : exec i s = .next t) : StepFrame s t := by
  obtain ⟨body, hexec, hlaw⟩ := exec_lawful i s
  rw [hexec] at h
  obtain ⟨u, hu, hc⟩ | ⟨e, -, hc⟩ := complete_cases i body s
  · cases hc.symm.trans h
    exact (hlaw.ok _ u hu).stepFrame _
  · cases hc.symm.trans h
    exact takeError_stepFrame e i.opcode s

theorem step_stepFrame {s t : State} (h : step s = .next t) : StepFrame s t := by
  obtain ⟨e, -, hs⟩ | ⟨f, -, -, -, hs⟩ | ⟨f, i, -, -, -, hs⟩ := step_cases (run_of_step h)
  · cases hs.symm.trans h
    exact haltOn_stepFrame e.raised e.op s
  · cases hs.symm.trans h
    exact takeError_stepFrame _ f.op s
  · exact exec_stepFrame (hs.symm.trans h)

/-- A step starts in Running, so that it ends there or in Halted (10_state.md R23). -/
theorem step_run_ne_reset {s t : State} (h : step s = .next t) : t.run ≠ .reset := by
  obtain hrun | ⟨k, hrun⟩ := (step_stepFrame h).run <;> rw [hrun]
  · rw [run_of_step h]
    nofun
  · nofun

/-- Settles O38: the frame of the end of a step, and the run state a step starts in. -/
theorem stepKeepsParametersAndStoredBits : Obligations.StepKeepsParametersAndStoredBits := by
  intro s t h
  obtain ⟨hparams, hcredit, hr, hb, -⟩ := step_stepFrame h
  exact ⟨hparams, hcredit, hr, hb, step_run_ne_reset h⟩

/-! ## The parameter record under the host's actions -/

@[simp] theorem cpuStore_params (s : State) (r : Region × Nat) (v : Byte) : (cpuStore s r v).params = s.params := by
  rw [cpuStore_eq, State.setMem_params]

theorem memWrite16_params {s t : State} {a w : Addr} (h : memWrite16 s a w = .ok t) : t.params = s.params := by
  unfold memWrite16 at h
  split at h
  · cases h
  · split at h <;> cases h
    simp

@[simp] theorem storeBytes_params (s : State) (a : Addr) (bytes : List Byte) :
    (storeBytes s a bytes).params = s.params := by
  induction bytes generalizing s a with
  | nil => rfl
  | cons v vs ih =>
    unfold storeBytes
    split <;> rw [ih]
    rfl

theorem bulkWrite_params {s t : State} {a : Addr} {bytes : List Byte} (h : bulkWrite s a bytes = .ok t) :
    t.params = s.params := by
  unfold bulkWrite at h
  split at h
  · cases h
    rfl
  · split at h
    · cases h
    · split at h <;> cases h
      exact storeBytes_params s a bytes

@[simp] theorem hostReset_params (s : State) : (hostReset s).params = s.params := by
  simp [hostReset, resetFlags_eq]

/-- A boot is a construction, a bulk write and a reset (70_reset_and_hazards.md R275). -/
theorem boot_params {params : Params} {image : List Byte} {t : State} (h : boot params image = .ok t) :
    t.params = params := by
  obtain ⟨s, hload, hreset⟩ := bind_eq_ok.mp h
  rw [← Except.ok.inj hreset, hostReset_params]
  exact bulkWrite_params hload

/-! ## The parameter record under frames and runs -/

@[simp] theorem frameBegin_params (s : State) : (frameBegin s).params = s.params := rfl

@[simp] theorem frameStep_params (s : State) : (frameStep s).params = s.params := by
  unfold frameStep
  split
  next t h => exact (step_stepFrame h).params
  all_goals rfl

theorem frameLoop_params {stop : Nat → Bool} {turns k : Nat} {s t : State} (h : frameLoop stop turns k s = some t) :
    t.params = s.params := by
  induction turns generalizing k s with
  | zero =>
    unfold frameLoop at h
    split at h <;> cases h
    rfl
  | succ turns ih =>
    unfold frameLoop at h
    split at h
    · rw [ih h, frameStep_params]
    · cases h
      rfl

theorem FrameEnds.params {stop : Nat → Bool} {s t : State} (h : FrameEnds stop s t) : t.params = s.params := by
  obtain ⟨turns, hloop⟩ := h
  exact (frameLoop_params hloop).trans (frameBegin_params s)

@[simp] theorem runTurn_params (s : State) : (runTurn s).params = s.params := by
  unfold runTurn
  split
  · exact frameStep_params s
  · exact frameBegin_params s

theorem runState_params (s : State) (n : Nat) : (runState s n).params = s.params := by
  induction n with
  | zero => exact frameBegin_params s
  | succ n ih => exact (runTurn_params (runState s n)).trans ih

/-- Settles O57: each action's own lemma on the parameter record (00_scope.md R3). -/
theorem noActionChangesAParameter : Obligations.NoActionChangesAParameter := by
  refine ⟨fun params => ⟨rfl, fun image t => boot_params⟩,
    fun s => ⟨?exec, ?step, ?reset, ?write, ?write16, ?bulk, ?frame, ?run⟩⟩
  case exec => exact fun i t h => (exec_stepFrame h).params
  case step => exact fun t h => (step_stepFrame h).params
  case reset => exact hostReset_params s
  case write => exact fun a v t h => (memWrite_kept h).params
  case write16 => exact fun a w t => memWrite16_params
  case bulk => exact fun a bytes t => bulkWrite_params
  case frame => exact fun stop t => FrameEnds.params
  case run => exact runState_params s

end Sys2Proof.Machine
end

section
/-! PROOFS. State (10_state.md): the body of every instruction, one for each mnemonic; that none reads the stored Reserved
and Break flags, the counter, the records or the credit; the machine invariant; and what each instruction can write. -/

namespace Sys2Proof.Machine

/-! ## One body for each mnemonic -/

/-- The first operand byte of an instruction, absent read as 0x00 (00_scope.md R4). -/
def operandByte (i : Instr) : Byte := i.operands.getD 0 0x00

/-- The address b2:b1 of an instruction's operand bytes (30_encoding.md R83). -/
def operandAddr (i : Instr) : Addr := hilo (i.operands.getD 1 0x00) (operandByte i)

/-- The memory operand of an instruction by its mode (40_step_and_addressing.md R111 to R117). -/
def memOperandOf (i : Instr) : MemOperand :=
  match i.mode with
  | .zpx => .zpx (operandByte i)
  | .zpy => .zpy (operandByte i)
  | .abs => .abs (operandAddr i)
  | .absx => .absx (operandAddr i)
  | .absy => .absy (operandAddr i)
  | .indx => .indx (operandByte i)
  | .indy => .indy (operandByte i)
  | .zp | .imp | .acc | .imm | .ind | .rel => .zp (operandByte i)

/-- The operand of a read-class instruction (40_step_and_addressing.md R119). -/
def readOperandOf (i : Instr) : ReadOperand :=
  if i.mode = .imm then .imm (operandByte i) else .mem (memOperandOf i)

/-- The operand of a shift or rotate (44_inc_dec_shift.md R190). -/
def rmwOperandOf (i : Instr) : RmwOperand :=
  if i.mode = .acc then .acc else .mem (memOperandOf i)

/-- The body an instruction completes in a step from `s`, one for each mnemonic. -/
def bodyOf (i : Instr) (s : State) : State → Except Raise State :=
  match i.mnemonic with
  | .lda => lda (readOperandOf i)
  | .ldx => ldx (readOperandOf i)
  | .ldy => ldy (readOperandOf i)
  | .sta => sta (memOperandOf i)
  | .stx => stx (memOperandOf i)
  | .sty => sty (memOperandOf i)
  | .tax => tax
  | .tay => tay
  | .txa => txa
  | .tya => tya
  | .tsx => tsx
  | .txs => txs
  | .pha => pha
  | .php => php
  | .pla => pla
  | .plp => plp
  | .adc => adc i.opcode s.pc (readOperandOf i)
  | .sbc => sbc i.opcode s.pc (readOperandOf i)
  | .and => andA (readOperandOf i)
  | .ora => oraA (readOperandOf i)
  | .eor => eorA (readOperandOf i)
  | .cmp => cmpA (readOperandOf i)
  | .cpx => cpx (readOperandOf i)
  | .cpy => cpy (readOperandOf i)
  | .bit => bitA (readOperandOf i)
  | .inc => incM (.mem (memOperandOf i))
  | .dec => decM (.mem (memOperandOf i))
  | .inx => inx
  | .iny => iny
  | .dex => dex
  | .dey => dey
  | .asl => asl (rmwOperandOf i)
  | .lsr => lsr (rmwOperandOf i)
  | .rol => rol (rmwOperandOf i)
  | .ror => ror (rmwOperandOf i)
  | .bcc => branch (bccTaken s) (operandByte i)
  | .bcs => branch (bcsTaken s) (operandByte i)
  | .beq => branch (beqTaken s) (operandByte i)
  | .bmi => branch (bmiTaken s) (operandByte i)
  | .bne => branch (bneTaken s) (operandByte i)
  | .bpl => branch (bplTaken s) (operandByte i)
  | .bvc => branch (bvcTaken s) (operandByte i)
  | .bvs => branch (bvsTaken s) (operandByte i)
  | .jmp => if i.mode = .ind then jmpThrough (operandAddr i) else jmpTo (operandAddr i)
  | .jsr => jsr s.pc (operandAddr i)
  | .rts => rts
  | .brk => brk s.pc
  | .rti => rti
  | .clc => clc
  | .sec => sec
  | .cli => cli
  | .sei => sei
  | .clv => clv
  | .cld => cld
  | .sed => sed
  | .nop => nop

/-- Every instruction completes its mnemonic's body: what is proved of each of the 56 bodies holds of all 151 forms. -/
theorem exec_eq_complete (i : Instr) (s : State) : exec i s = complete i (bodyOf i s) s := by
  cases i <;>
    simp only [bodyOf, Instr.mnemonic, readOperandOf, rmwOperandOf, memOperandOf, Instr.mode, operandByte, operandAddr,
      Instr.operands, List.getD_cons_zero, List.getD_cons_succ, hilo_hiByte_loByte, reduceCtorEq, if_true, if_false] <;>
    rfl

/-! ## What no instruction reads (10_state.md R17, R24) -/

/-- Values for what `Alike` leaves open: the stored Reserved and Break flags, the counter, the records, the credit. -/
structure Unread where
  r : Bool
  b : Bool
  cycles : Nat
  faults : List FaultRecord
  credit : Rat

/-- A state with its unread part replaced. -/
def State.withUnread (s : State) (q : Unread) : State :=
  { s with p := { s.p with r := q.r, b := q.b }, cycles := q.cycles, faults := q.faults, credit := q.credit }

theorem alike_iff {s t : State} : Claim.Alike s t ↔ ∃ q, t = s.withUnread q :=
  ⟨fun h => ⟨⟨t.p.r, t.p.b, t.cycles, t.faults, t.credit⟩, h.symm⟩, fun ⟨_, h⟩ => h ▸ rfl⟩

/-- An update neither reads nor writes the unread part: replacing that part before it or after it is the same. -/
def Inert (f : State → State) : Prop := ∀ t q, f (t.withUnread q) = (f t).withUnread q

/-- The same of a body, which may raise. -/
def InertBody (body : State → Except Raise State) : Prop :=
  ∀ t q, body (t.withUnread q) = (body t).map (·.withUnread q)

section
variable (s : State) (q : Unread)

@[simp] theorem withUnread_a : (s.withUnread q).a = s.a := rfl
@[simp] theorem withUnread_x : (s.withUnread q).x = s.x := rfl
@[simp] theorem withUnread_y : (s.withUnread q).y = s.y := rfl
@[simp] theorem withUnread_sp : (s.withUnread q).sp = s.sp := rfl
@[simp] theorem withUnread_mem : (s.withUnread q).mem = s.mem := rfl
@[simp] theorem withUnread_params : (s.withUnread q).params = s.params := rfl
@[simp] theorem withUnread_c : (s.withUnread q).p.c = s.p.c := rfl
@[simp] theorem withUnread_d : (s.withUnread q).p.d = s.p.d := rfl

@[simp] theorem setA_withUnread (v : Byte) : (s.withUnread q).setA v = (s.setA v).withUnread q := rfl
@[simp] theorem setX_withUnread (v : Byte) : (s.withUnread q).setX v = (s.setX v).withUnread q := rfl
@[simp] theorem setY_withUnread (v : Byte) : (s.withUnread q).setY v = (s.setY v).withUnread q := rfl
@[simp] theorem setSp_withUnread (v : Byte) : (s.withUnread q).setSp v = (s.setSp v).withUnread q := rfl
@[simp] theorem setPc_withUnread (v : Addr) : (s.withUnread q).setPc v = (s.setPc v).withUnread q := rfl

@[simp] theorem setCarry_withUnread (x : Bool) : setFlag .c x (s.withUnread q) = (setFlag .c x s).withUnread q := by
  rw [setFlag_eq, setFlag_eq]
  rfl

@[simp] theorem setNZ_withUnread (v : Byte) : setNZ v (s.withUnread q) = (setNZ v s).withUnread q := by
  rw [setNZ_eq, setNZ_eq]
  rfl

@[simp] theorem setNZLoad_withUnread (v : Byte) : setNZLoad v (s.withUnread q) = (setNZLoad v s).withUnread q := by
  rw [setNZLoad_eq, setNZLoad_eq]
  rfl

@[simp] theorem addWithCarry_withUnread (a m : Byte) :
    addWithCarry a m (s.withUnread q) = (addWithCarry a m s).withUnread q := by
  rw [addWithCarry_eq, addWithCarry_eq]
  rfl

@[simp] theorem compare_withUnread (r m : Byte) : compare r m (s.withUnread q) = (compare r m s).withUnread q := by
  rw [compare_eq, compare_eq]
  rfl

@[simp] theorem bitTest_withUnread (a m : Byte) : bitTest a m (s.withUnread q) = (bitTest a m s).withUnread q := by
  rw [bitTest_eq, bitTest_eq]
  rfl

@[simp] theorem restoreFlags_withUnread (v : Byte) :
    restoreFlags v (s.withUnread q) = (restoreFlags v s).withUnread q := rfl

/-- The pushed copy has both bits set whatever is stored (10_state.md R17). -/
@[simp] theorem pushedFlags_withUnread : pushedFlags (s.withUnread q) = pushedFlags s := by
  rw [pushedFlags_eq, pushedFlags_eq]
  rfl

@[simp] theorem decodeAddr_withUnread (a : Addr) : (s.withUnread q).decodeAddr a = s.decodeAddr a := rfl
@[simp] theorem stackAddr_withUnread : (s.withUnread q).stackAddr = s.stackAddr := rfl
@[simp] theorem memRead_withUnread (a : Addr) : memRead (s.withUnread q) a = memRead s a := rfl
@[simp] theorem memRead16_withUnread (a : Addr) : memRead16 (s.withUnread q) a = memRead16 s a := rfl
@[simp] theorem fetch_withUnread : fetch (s.withUnread q) = fetch s := rfl
@[simp] theorem indirectTarget_withUnread (ptr : Addr) : indirectTarget ptr (s.withUnread q) = indirectTarget ptr s := rfl
@[simp] theorem ea_withUnread (m : MemOperand) : m.ea (s.withUnread q) = m.ea s := ea_congr rfl rfl rfl rfl m
@[simp] theorem value_withUnread (o : ReadOperand) : o.value (s.withUnread q) = o.value s := by
  cases o <;> simp [ReadOperand.value]

@[simp] theorem storeByte_withUnread (r : Region × Nat) (v : Byte) :
    storeByte (s.withUnread q) r v = (storeByte s r v).withUnread q := rfl

@[simp] theorem cpuStore_withUnread (r : Region × Nat) (v : Byte) :
    cpuStore (s.withUnread q) r v = (cpuStore s r v).withUnread q := by
  rw [cpuStore_eq, cpuStore_eq]
  rfl

end

/-! ### Sequences and shared operations -/

theorem Inert.body {f : State → State} (h : Inert f) : InertBody (fun t => .ok (f t)) :=
  fun t q => congrArg Except.ok (h t q)

theorem InertBody.seq {f g : State → Except Raise State} (hf : InertBody f) (hg : InertBody g) :
    InertBody (fun t => f t >>= g) := by
  intro t q
  simp only [hf t q]
  cases f t with
  | error e => rfl
  | ok u => exact hg u q

theorem forceFlag_inert {f : Flag} (hr : f ≠ .r) (hb : f ≠ .b) (x : Bool) : Inert (forceFlag f x) := by
  intro s q
  cases f <;> simp at hr hb <;> rfl

theorem memWrite_inert (a : Addr) (v : Byte) : InertBody (memWrite · a v) := by
  intro s q
  simp only [memWrite, decodeAddr_withUnread]
  cases s.decodeAddr a with
  | none => rfl
  | some r => exact congrArg Except.ok (cpuStore_withUnread s q r v)

theorem push_inert (v : Byte) : InertBody (push v) := fun s q => by simp [push_eq, Except.map]

theorem push16_inert (w : Addr) : InertBody (push16 w) := (push_inert (hiByte w)).seq (push_inert (loByte w))

/-! ### Bodies by class -/

theorem readClass_inert {f : Byte → State → State} (o : ReadOperand) (h : ∀ v, Inert (f v)) :
    InertBody (readClass o f) := by
  intro s q
  simp only [readClass, value_withUnread]
  cases o.value s with
  | error e => rfl
  | ok v => exact (h v).body s q

theorem decimal_inert {f : Byte → State → State} (op : Byte) (pc0 : Addr) (o : ReadOperand) (h : ∀ v, Inert (f v)) :
    InertBody (fun t => do
      let m ← o.value t
      decimalChecked op pc0 t (f m t)) := by
  intro s q
  simp only [value_withUnread]
  cases o.value s with
  | error e => rfl
  | ok v =>
    simp only [ok_bind, decimalChecked, withUnread_d, withUnread_params, h v s q]
    split <;> rfl

theorem storeClass_inert (m : MemOperand) (v : Byte) : InertBody (storeClass m v) := by
  intro s q
  obtain ⟨ea, hea⟩ := ea_ok m s
  simp only [storeClass, ea_withUnread, hea, ok_bind]
  exact memWrite_inert ea v s q

theorem modify_inert (f : Byte → State → Byte × State) (o : RmwOperand)
    (h : ∀ v t q, f v (t.withUnread q) = ((f v t).1, (f v t).2.withUnread q)) : InertBody (modify o f) := by
  intro s q
  cases o with
  | acc => simp [modify, h, Except.map]
  | mem m =>
    obtain ⟨ea, hea⟩ := ea_ok m s
    simp only [modify, ea_withUnread, hea, ok_bind, memRead_withUnread]
    cases memRead s ea with
    | error e => rfl
    | ok v =>
      simp only [ok_bind, h]
      exact ((memWrite_inert ea (f v s).1).seq (Inert.body fun t q => setNZ_withUnread t q (f v s).1)) (f v s).2 q

theorem branch_inert (taken : Bool) (off : Byte) : InertBody (branch taken off) := by
  cases taken <;> exact fun s q => rfl

theorem jmp_inert (indirect : Prop) [Decidable indirect] (w : Addr) :
    InertBody (if indirect then jmpThrough w else jmpTo w) := by
  intro s q
  split
  · simp only [jmpThrough, indirectTarget_withUnread]
    cases indirectTarget w s <;> rfl
  · rfl

theorem php_inert : InertBody php := fun s q => by rw [php, pushedFlags_withUnread, push_inert]; rfl

theorem brk_inert (pc0 : Addr) : InertBody (brk pc0) := by
  have hvector : InertBody fun w => memRead16 w brkVector >>= fun target => .ok (w.setPc target) := fun s q => by
    simp only [memRead16_withUnread]
    cases memRead16 s brkVector <;> rfl
  have hforce : Inert (forceFlag .i true) := forceFlag_inert (by decide) (by decide) true
  exact (push16_inert (pc0 + 2)).seq (php_inert.seq (hforce.body.seq hvector))

/-- Every instruction's body, by mnemonic. -/
theorem bodyOf_inert (i : Instr) (s : State) : InertBody (bodyOf i s) := by
  unfold bodyOf
  cases i.mnemonic with
  | lda | ldx | ldy | and | ora | eor | cmp | cpx | cpy | bit => exact readClass_inert _ fun v t q => by simp
  | adc | sbc => exact decimal_inert _ _ _ fun v t q => by simp
  | sta => exact fun t => storeClass_inert _ t.a t
  | stx => exact fun t => storeClass_inert _ t.x t
  | sty => exact fun t => storeClass_inert _ t.y t
  | tax | tay | txa | tya | tsx | txs | inx | iny | dex | dey => exact Inert.body fun t q => by simp
  | inc => exact modify_inert incByte _ fun v t q => rfl
  | dec => exact modify_inert decByte _ fun v t q => rfl
  | asl => exact modify_inert aslByte _ fun v t q => by simp [aslByte]
  | lsr => exact modify_inert lsrByte _ fun v t q => by simp [lsrByte]
  | rol => exact modify_inert rolByte _ fun v t q => by simp [rolByte]
  | ror => exact modify_inert rorByte _ fun v t q => by simp [rorByte]
  | pha => exact fun t => push_inert t.a t
  | php => exact php_inert
  | pla => exact fun t q => by simp [pla, pull_eq, Except.map]
  | plp => exact fun t q => by simp [plp, pull_eq, Except.map]
  | bcc | bcs | beq | bmi | bne | bpl | bvc | bvs => exact branch_inert _ _
  | jmp => exact jmp_inert _ _
  | jsr => exact (push16_inert _).seq (Inert.body fun t q => setPc_withUnread t q _)
  | rts => exact fun t q => by simp [rts, pull16, pull_eq, Except.map]
  | brk => exact brk_inert _
  | rti => exact fun t q => by simp [rti, returnFromInterrupt, pull16, pull_eq, Except.map]
  | clc | sec | cli | sei | clv | cld | sed => exact (forceFlag_inert (by decide) (by decide) _).body
  | nop => exact fun t q => rfl

/-- The body is chosen by flags and PC only, which the unread part does not hold. -/
theorem bodyOf_withUnread (i : Instr) (s : State) (q : Unread) : bodyOf i (s.withUnread q) = bodyOf i s := rfl

/-! ### The end of a step -/

theorem haltOn_withUnread (e : Raise) (op : Option Byte) (s : State) (q : Unread) :
    ∃ q', haltOn e op (s.withUnread q) = (haltOn e op s).withUnread q' :=
  ⟨{ q with faults := q.faults ++ [⟨e, s.pc, op⟩] }, rfl⟩

theorem skipOn_withUnread (e : Raise) (op : Byte) (s : State) (q : Unread) :
    ∃ q', skipOn e op (s.withUnread q) = (skipOn e op s).withUnread q' :=
  ⟨{ q with faults := q.faults ++ [⟨e, s.pc, some op⟩], cycles := q.cycles + nominalCost s.params op }, rfl⟩

theorem takeError_withUnread (e : Raise) (op : Byte) (s : State) (q : Unread) :
    ∃ q', takeError e op (s.withUnread q) = (takeError e op s).withUnread q' := by
  unfold takeError
  rw [withUnread_params]
  split
  · exact skipOn_withUnread e op s q
  · exact haltOn_withUnread e (some op) s q

theorem complete_withUnread {i : Instr} {body : State → Except Raise State} (h : InertBody body) {s t : State}
    (ht : complete i body s = .next t) (q : Unread) :
    ∃ q', complete i body (s.withUnread q) = .next (t.withUnread q') := by
  have hbody : body ((s.withUnread q).setPc ((s.withUnread q).fall i.opcode)) = _ := h (s.setPc (s.fall i.opcode)) q
  obtain ⟨u, hu, hc⟩ | ⟨e, he, hc⟩ := complete_cases i body s
  · cases hc.symm.trans ht
    rw [hu] at hbody
    rw [complete_ok hbody]
    exact ⟨{ q with cycles := q.cycles + nominalCost s.params i.opcode }, rfl⟩
  · cases hc.symm.trans ht
    rw [he] at hbody
    exact (takeError_withUnread e i.opcode s q).imp fun q' hq => (complete_error hbody).trans (congrArg _ hq)

theorem exec_withUnread {i : Instr} {s t : State} (h : exec i s = .next t) (q : Unread) :
    ∃ q', exec i (s.withUnread q) = .next (t.withUnread q') := by
  rw [exec_eq_complete] at h ⊢
  rw [bodyOf_withUnread]
  exact complete_withUnread (bodyOf_inert i s) h q

theorem step_withUnread {s t : State} (h : step s = .next t) (q : Unread) :
    ∃ q', step (s.withUnread q) = .next (t.withUnread q') := by
  have hrun : s.run = .running := run_of_step h
  rw [step_running hrun] at h
  rw [step_running (s := s.withUnread q) hrun, fetch_withUnread]
  cases hf : fetch s with
  | error e =>
    simp only [hf] at h ⊢
    cases h
    exact (haltOn_withUnread e.raised e.op s q).imp fun q' hq => congrArg _ hq
  | ok f =>
    cases hd : decodeOp f.op f.b1 f.b2 with
    | none =>
      simp only [hf, hd] at h ⊢
      cases h
      exact (takeError_withUnread _ f.op s q).imp fun q' hq => congrArg _ hq
    | some i =>
      simp only [hf, hd] at h ⊢
      exact exec_withUnread h q

/-- Settles O39: alike states differ by a replacement of the unread part, which every step commutes with. -/
theorem unreadStateIsInert : Obligations.UnreadStateIsInert := by
  intro s s' t hs h
  obtain ⟨q, rfl⟩ := alike_iff.mp hs
  obtain ⟨q', ht⟩ := step_withUnread h q
  exact ⟨_, ht, alike_iff.mpr ⟨q', rfl⟩⟩

/-! ## The invariant (10_state.md R17, R25, 60_exceptions.md R240 to R246) -/

theorem inv_iff (s : State) : s.inv = true ↔
    s.mem.wf = true ∧ s.p.r = false ∧ s.p.b = false ∧ s.run ≠ .reset ∧ s.haltRecorded = true ∧
      ∀ r ∈ s.faults, r.truthful s.params = true := by
  simp [State.inv, and_assoc]

theorem haltRecorded_of_running {s : State} (h : s.run = .running) : s.haltRecorded = true := by
  simp [State.haltRecorded, h]

theorem haltOn_haltRecorded (e : Raise) (op : Option Byte) (s : State) : (haltOn e op s).haltRecorded = true := by
  simp [State.haltRecorded, haltOn, recordError, FaultRecord.kind]

theorem forall_truthful_append {c : Params} {rs : List FaultRecord} {r : FaultRecord}
    (hrs : ∀ x ∈ rs, x.truthful c = true) (hr : r.truthful c = true) : ∀ x ∈ rs ++ [r], x.truthful c = true := by
  simpa [or_imp, forall_and] using ⟨hrs, hr⟩

theorem haltOn_inv {e : Raise} {op : Option Byte} {s : State} (h : s.inv = true)
    (hr : FaultRecord.truthful s.params ⟨e, s.pc, op⟩ = true) : (haltOn e op s).inv = true := by
  obtain ⟨hwf, hR, hB, -, -, hrs⟩ := (inv_iff s).mp h
  exact (inv_iff _).mpr ⟨hwf, hR, hB, nofun, haltOn_haltRecorded e op s, forall_truthful_append hrs hr⟩

theorem skipOn_inv {e : Raise} {op : Byte} {s : State} (h : s.inv = true) (hrun : s.run = .running)
    (hr : FaultRecord.truthful s.params ⟨e, s.pc, some op⟩ = true) : (skipOn e op s).inv = true := by
  obtain ⟨hwf, hR, hB, hreset, -, hrs⟩ := (inv_iff s).mp h
  exact (inv_iff _).mpr ⟨hwf, hR, hB, hreset, haltRecorded_of_running hrun, forall_truthful_append hrs hr⟩

theorem takeError_inv {e : Raise} {op : Byte} {s : State} (h : s.inv = true) (hrun : s.run = .running)
    (hr : FaultRecord.truthful s.params ⟨e, s.pc, some op⟩ = true) : (takeError e op s).inv = true := by
  unfold takeError
  split
  · exact skipOn_inv h hrun hr
  · exact haltOn_inv h hr

/-! ### Every record is truthful -/

/-- The opcode of an instruction decodes to an instruction of that mnemonic, whatever its operand bytes. -/
theorem decodeOp_opcode_mnemonic (i : Instr) (b1 b2 : Byte) :
    ∃ j, decodeOp i.opcode b1 b2 = some j ∧ j.mnemonic = i.mnemonic := by
  cases i <;> exact ⟨_, rfl, rfl⟩

theorem truthful_of_raised {i : Instr} {pc : Addr} {c : Params} {e : Raise} (h : Raised i pc c e) :
    FaultRecord.truthful c ⟨e, pc, some i.opcode⟩ = true := by
  cases e with
  | unmappedAddress a => exact Option.isNone_iff_eq_none.mpr h
  | outOfBoundsAccess a n => exact decide_eq_true h
  | unimplementedOpcode op pc' =>
    obtain ⟨rfl, rfl, hm, hd⟩ := h
    obtain ⟨j, hj, hjm⟩ := decodeOp_opcode_mnemonic i 0#8 0#8
    simpa [FaultRecord.truthful, hj, hjm, hd] using hm

/-- An unimplemented opcode is one whatever its operand bytes. -/
theorem truthful_sentinel {op b1 b2 : Byte} (h : decodeOp op b1 b2 = none) (c : Params) (pc : Addr) :
    FaultRecord.truthful c ⟨.unimplementedOpcode op pc, pc, some op⟩ = true := by
  have h0 : decodeOp op 0#8 0#8 = none := (decodeOp_eq_none op _ _).mpr ((decodeOp_eq_none op b1 b2).mp h)
  simp [FaultRecord.truthful, h0]

theorem truthful_of_memRead {s : State} {a : Addr} {e : Raise} (h : memRead s a = .error e) (pc : Addr)
    (op : Option Byte) : FaultRecord.truthful s.params ⟨e, pc, op⟩ = true := by
  obtain ⟨rfl, ha⟩ := memRead_eq_error h
  exact Option.isNone_iff_eq_none.mpr ha

theorem truthful_of_fetchOperand {s : State} {n k : Nat} {e : Raise} (h : fetchOperand s n k = .error e) (pc : Addr)
    (op : Option Byte) : FaultRecord.truthful s.params ⟨e, pc, op⟩ = true := by
  unfold fetchOperand at h
  split at h
  · cases h
  · exact truthful_of_memRead h pc op

theorem truthful_of_fetch {s : State} {e : FetchError} (h : fetch s = .error e) (pc : Addr) :
    FaultRecord.truthful s.params ⟨e.raised, pc, e.op⟩ = true := by
  unfold fetch at h
  split at h
  next hop => cases h; exact truthful_of_memRead hop pc _
  next op hop =>
    split at h
    next hbound => cases h; exact decide_eq_true (by omega)
    next =>
      split at h
      next hb1 => cases h; exact truthful_of_fetchOperand hb1 pc _
      next =>
        split at h
        next hb2 => cases h; exact truthful_of_fetchOperand hb2 pc _
        next => cases h

/-! ### Every step -/

theorem exec_inv {i : Instr} {s t : State} (h : s.inv = true) (hrun : s.run = .running) (ht : exec i s = .next t) :
    t.inv = true := by
  obtain ⟨body, hexec, hlaw⟩ := exec_lawful i s
  rw [hexec] at ht
  obtain ⟨u, hu, hc⟩ | ⟨e, he, hc⟩ := complete_cases i body s <;> cases hc.symm.trans ht
  · have hkept := hlaw.ok _ u hu
    obtain ⟨hwf, hR, hB, -, -, hrs⟩ := (inv_iff s).mp h
    have hrun' : u.run = .running := hkept.run.trans hrun
    refine (inv_iff _).mpr ⟨hkept.wf hwf, hkept.r.trans hR, hkept.b.trans hB, by simp [hrun'],
      haltRecorded_of_running hrun', ?_⟩
    simpa [hkept.faults, hkept.params] using hrs
  · have hraised := hlaw.error _ e he
    exact takeError_inv h hrun (truthful_of_raised hraised)

/-- Settles O41: each end of a step keeps the invariant. -/
theorem stepKeepsInvariant : Obligations.StepKeepsInvariant := by
  intro s t h ht
  have hrun := run_of_step ht
  obtain ⟨e, hf, hs⟩ | ⟨f, -, -, hd, hs⟩ | ⟨f, i, -, -, -, hs⟩ := step_cases hrun
  · cases hs.symm.trans ht
    exact haltOn_inv h (truthful_of_fetch hf s.pc)
  · cases hs.symm.trans ht
    exact takeError_inv h hrun (truthful_sentinel hd s.params s.pc)
  · exact exec_inv h hrun (hs.symm.trans ht)

/-- Settles O40: no record, and Running. -/
theorem resetMeetsInvariant : Obligations.ResetMeetsInvariant :=
  (inv_iff _).mpr ⟨reset_mem_wf, rfl, rfl, nofun, haltRecorded_of_running rfl, nofun⟩

/-- Settles O34: `step` looks at the run state first. -/
theorem noStepUnlessRunning : Obligations.NoStepUnlessRunning := by
  intro s k
  constructor <;> intro h <;> simp [step, h]

/-! ## What an instruction writes (10_state.md R10 to R13, R22, 40_step_and_addressing.md R122) -/

/-- The parts of the state that an instruction's own rule gives it to write. PC is every instruction's. -/
inductive Part where
  | a
  | x
  | y
  | sp
  | mem
  | flag (f : Flag)
  deriving DecidableEq

/-- A part is the same in two states. -/
def Part.Same (s t : State) : Part → Prop
  | .a => t.a = s.a
  | .x => t.x = s.x
  | .y => t.y = s.y
  | .sp => t.sp = s.sp
  | .mem => t.mem = s.mem
  | .flag f => t.p.get f = s.p.get f

/-- From `s` to `t`, no part outside `w` changes. -/
def Writes (w : List Part) (s t : State) : Prop := ∀ q ∉ w, q.Same s t

/-- A body, when it raises nothing, changes no part outside `w`. -/
def BodyWrites (w : List Part) (body : State → Except Raise State) : Prop := ∀ s t, body s = .ok t → Writes w s t

theorem Part.Same.refl (s : State) (q : Part) : q.Same s s := by cases q <;> rfl

theorem Part.Same.trans {s t u : State} {q : Part} (h : q.Same s t) (k : q.Same t u) : q.Same s u := by
  cases q <;> exact Eq.trans k h

theorem Writes.refl (s : State) : Writes [] s s := fun q _ => Part.Same.refl s q

/-- Writes in sequence write what either writes. -/
theorem Writes.trans {v w : List Part} {s t u : State} (h : Writes v s t) (k : Writes w t u) : Writes (v ++ w) s u :=
  fun q hq =>
    have ⟨hv, hw⟩ := not_or.mp (mt List.mem_append.mpr hq)
    (h q hv).trans (k q hw)

theorem Writes.mono {v w : List Part} {s t : State} (h : Writes v s t) (hvw : v ⊆ w) : Writes w s t :=
  fun q hq => h q fun hv => hq (hvw hv)

/-! ### The shared operations -/

/-- The parts of the two result flags (10_state.md R20). -/
def Part.nz : List Part := [.flag .n, .flag .z]

/-- The parts a pulled status byte is written to: all flags but R and B (10_state.md R16). -/
def Part.restored : List Part := [.flag .n, .flag .v, .flag .d, .flag .i, .flag .z, .flag .c]

section
variable (s : State) (v : Byte)

theorem setA_writes : Writes [.a] s (s.setA v) := fun q hq => by cases q <;> simp [Part.Same] at hq ⊢
theorem setX_writes : Writes [.x] s (s.setX v) := fun q hq => by cases q <;> simp [Part.Same] at hq ⊢
theorem setY_writes : Writes [.y] s (s.setY v) := fun q hq => by cases q <;> simp [Part.Same] at hq ⊢
theorem setSp_writes : Writes [.sp] s (s.setSp v) := fun q hq => by cases q <;> simp [Part.Same] at hq ⊢
theorem setMem_writes (m : Memory) : Writes [.mem] s (s.setMem m) := fun q hq => by
  cases q <;> simp [Part.Same] at hq ⊢
theorem setPc_writes (w : Addr) : Writes [] s (s.setPc w) := fun q _ => Part.Same.refl s q
theorem setCycles_writes (n : Nat) : Writes [] s (s.setCycles n) := fun q _ => Part.Same.refl s q

/-- An update of the flags writes those whose value it gives anew. -/
theorem setP_writes {w : List Part} {p : Flags} (h : ∀ f, .flag f ∉ w → p.get f = s.p.get f) : Writes w s (s.setP p) := by
  intro q hq
  cases q with
  | flag f => exact h f hq
  | a | x | y | sp | mem => rfl

theorem setFlag_writes (f : Flag) (x : Bool) : Writes [.flag f] s (setFlag f x s) := by
  rw [setFlag_eq]
  refine setP_writes s fun g hg => ?_
  cases f <;> cases g <;> simp [Flags.put, Flags.get] at hg ⊢

theorem forceFlag_writes (f : Flag) (x : Bool) : Writes [.flag f] s (forceFlag f x s) := by
  refine setP_writes s fun g hg => ?_
  cases f <;> cases g <;> simp [Flags.put, Flags.get] at hg ⊢

theorem setNZ_writes : Writes Part.nz s (setNZ v s) := by
  rw [setNZ_eq]
  refine setP_writes s fun f hf => ?_
  cases f <;> simp [Part.nz, Flags.get] at hf ⊢

theorem setNZLoad_writes : Writes Part.nz s (setNZLoad v s) := by
  rw [setNZLoad_eq]
  refine setP_writes s fun f hf => ?_
  cases f <;> simp [Part.nz, Flags.get] at hf ⊢

theorem restoreFlags_writes : Writes Part.restored s (restoreFlags v s) := by
  rw [restoreFlags_eq]
  refine setP_writes s fun f hf => ?_
  cases f <;> simp [Part.restored, Flags.get] at hf ⊢

theorem compare_writes (r m : Byte) : Writes (.flag .c :: Part.nz) s (compare r m s) := by
  rw [compare_eq]
  refine setP_writes s fun f hf => ?_
  cases f <;> simp [Part.nz, Flags.get] at hf ⊢

theorem bitTest_writes (a m : Byte) : Writes (.flag .v :: Part.nz) s (bitTest a m s) := by
  rw [bitTest_eq]
  refine setP_writes s fun f hf => ?_
  cases f <;> simp [Part.nz, Flags.get] at hf ⊢

theorem addWithCarry_writes (a m : Byte) :
    Writes (.a :: .flag .c :: .flag .v :: Part.nz) s (addWithCarry a m s) := by
  rw [addWithCarry_eq]
  refine (setA_writes s _).trans (setP_writes _ fun f hf => ?_)
  cases f <;> simp [Part.nz, Flags.get] at hf ⊢

end

theorem memWrite_writes {s t : State} {a : Addr} {v : Byte} (h : memWrite s a v = .ok t) : Writes [.mem] s t := by
  unfold memWrite at h
  split at h <;> cases h
  rw [cpuStore_eq]
  exact setMem_writes s _

theorem push_writes {v : Byte} {s t : State} (h : push v s = .ok t) : Writes [.mem, .sp] s t := by
  obtain ⟨u, hu, h⟩ := bind_eq_ok.mp h
  cases h
  exact (memWrite_writes hu).trans (setSp_writes u _)

theorem push16_writes {w : Addr} {s t : State} (h : push16 w s = .ok t) : Writes [.mem, .sp] s t := by
  obtain ⟨u, hu, h⟩ := bind_eq_ok.mp h
  exact ((push_writes hu).trans (push_writes h)).mono (by simp)

theorem pull_writes {s : State} {r : Byte × State} (h : pull s = .ok r) : Writes [.sp] s r.2 := by
  rw [pull_eq] at h
  cases h
  exact setSp_writes s _

theorem pull16_writes {s : State} {r : Addr × State} (h : pull16 s = .ok r) : Writes [.sp] s r.2 := by
  obtain ⟨⟨lo, t⟩, ht, h⟩ := bind_eq_ok.mp h
  obtain ⟨⟨hi, u⟩, hu, h⟩ := bind_eq_ok.mp h
  cases h
  exact ((pull_writes ht).trans (pull_writes hu)).mono (by simp)

/-! ### Bodies by class -/

theorem pure_writes {w : List Part} {f : State → State} (h : ∀ t, Writes w t (f t)) :
    BodyWrites w (fun t => .ok (f t)) := fun s _ ht => Except.ok.inj ht ▸ h s

theorem readClass_writes {w : List Part} {f : Byte → State → State} (o : ReadOperand) (h : ∀ v t, Writes w t (f v t)) :
    BodyWrites w (readClass o f) := by
  intro s t ht
  obtain ⟨v, -, hv⟩ := bind_eq_ok.mp ht
  cases hv
  exact h v s

theorem decimal_writes {w : List Part} {f : Byte → State → State} (op : Byte) (pc0 : Addr) (o : ReadOperand)
    (h : ∀ v t, Writes w t (f v t)) :
    BodyWrites w (fun t => do
      let m ← o.value t
      decimalChecked op pc0 t (f m t)) := by
  intro s t ht
  obtain ⟨v, -, hv⟩ := bind_eq_ok.mp ht
  unfold decimalChecked at hv
  split at hv <;> cases hv
  exact h v s

theorem storeClass_writes {m : MemOperand} {v : Byte} {s t : State} (h : storeClass m v s = .ok t) :
    Writes [.mem] s t := by
  obtain ⟨ea, -, hw⟩ := bind_eq_ok.mp h
  exact memWrite_writes hw

/-- Where a read-modify-write form puts its result. -/
def RmwOperand.target : RmwOperand → Part
  | .acc => .a
  | .mem _ => .mem

theorem modify_writes {w : List Part} (f : Byte → State → Byte × State) (o : RmwOperand)
    (h : ∀ v s, Writes w s (f v s).2) : BodyWrites (w ++ o.target :: Part.nz) (modify o f) := by
  intro s t ht
  cases o with
  | acc =>
    cases ht
    exact (h s.a s).trans ((setA_writes _ _).trans (setNZ_writes _ _))
  | mem m =>
    obtain ⟨ea, -, ht⟩ := bind_eq_ok.mp ht
    obtain ⟨v, -, ht⟩ := bind_eq_ok.mp ht
    obtain ⟨u, hu, ht⟩ := bind_eq_ok.mp ht
    cases ht
    exact (h v s).trans ((memWrite_writes hu).trans (setNZ_writes _ _))

/-! ### Bodies that use the stack or a pointer -/

theorem pla_writes : BodyWrites (.sp :: .a :: Part.nz) pla := by
  intro s t ht
  obtain ⟨⟨v, u⟩, hu, ht⟩ := bind_eq_ok.mp ht
  cases ht
  exact (pull_writes hu).trans ((setA_writes u v).trans (setNZ_writes _ v))

theorem plp_writes : BodyWrites (.sp :: Part.restored) plp := by
  intro s t ht
  obtain ⟨⟨v, u⟩, hu, ht⟩ := bind_eq_ok.mp ht
  cases ht
  exact (pull_writes hu).trans (restoreFlags_writes u v)

theorem jmp_writes (indirect : Prop) [Decidable indirect] (w : Addr) :
    BodyWrites [] (if indirect then jmpThrough w else jmpTo w) := by
  intro s t ht
  split at ht
  · obtain ⟨target, -, ht⟩ := bind_eq_ok.mp ht
    cases ht
    exact setPc_writes s target
  · cases ht
    exact setPc_writes s w

theorem branch_writes (taken : Bool) (off : Byte) : BodyWrites [] (branch taken off) := by
  cases taken with
  | false => exact pure_writes Writes.refl
  | true => exact pure_writes fun t => setPc_writes t _

theorem jsr_writes (pc0 target : Addr) : BodyWrites [.mem, .sp] (jsr pc0 target) := by
  intro s t ht
  obtain ⟨u, hu, ht⟩ := bind_eq_ok.mp ht
  cases ht
  exact (push16_writes hu).trans (setPc_writes u target)

theorem rts_writes : BodyWrites [.sp] rts := by
  intro s t ht
  obtain ⟨⟨ret, u⟩, hu, ht⟩ := bind_eq_ok.mp ht
  cases ht
  exact (pull16_writes hu).trans (setPc_writes u _)

theorem brk_writes (pc0 : Addr) : BodyWrites [.mem, .sp, .flag .i] (brk pc0) := by
  intro s t ht
  obtain ⟨u, hu, ht⟩ := bind_eq_ok.mp ht
  obtain ⟨v, hv, ht⟩ := bind_eq_ok.mp ht
  obtain ⟨target, -, ht⟩ := bind_eq_ok.mp ht
  cases ht
  exact (((push16_writes hu).trans (push_writes hv)).trans
    ((forceFlag_writes v .i true).trans (setPc_writes _ target))).mono (by simp)

theorem rti_writes : BodyWrites (.sp :: Part.restored) rti := by
  intro s t ht
  obtain ⟨⟨v, u⟩, hu, ht⟩ := bind_eq_ok.mp ht
  obtain ⟨⟨ret, w⟩, hw, ht⟩ := bind_eq_ok.mp ht
  cases ht
  exact (((pull_writes hu).trans (restoreFlags_writes u v)).trans
    ((pull16_writes hw).trans (setPc_writes w ret))).mono (by simp)

/-! ### The table of writers -/

/-- The parts an instruction writes, by its mnemonic (10_state.md R22 for the flags). -/
def writesOf (i : Instr) : List Part :=
  match i.mnemonic with
  | .lda | .txa | .tya | .and | .ora | .eor => .a :: Part.nz
  | .ldx | .tax | .tsx | .inx | .dex => .x :: Part.nz
  | .ldy | .tay | .iny | .dey => .y :: Part.nz
  | .adc | .sbc => .a :: .flag .c :: .flag .v :: Part.nz
  | .cmp | .cpx | .cpy => .flag .c :: Part.nz
  | .bit => .flag .v :: Part.nz
  | .sta | .stx | .sty => [.mem]
  | .inc | .dec => .mem :: Part.nz
  | .asl | .lsr | .rol | .ror => .flag .c :: (rmwOperandOf i).target :: Part.nz
  | .txs | .rts => [.sp]
  | .pha | .php | .jsr => [.mem, .sp]
  | .pla => .sp :: .a :: Part.nz
  | .plp | .rti => .sp :: Part.restored
  | .brk => [.mem, .sp, .flag .i]
  | .clc | .sec => [.flag .c]
  | .cli | .sei => [.flag .i]
  | .cld | .sed => [.flag .d]
  | .clv => [.flag .v]
  | .bcc | .bcs | .beq | .bmi | .bne | .bpl | .bvc | .bvs | .jmp | .nop => []

theorem bodyOf_writes (i : Instr) (s : State) : BodyWrites (writesOf i) (bodyOf i s) := by
  unfold bodyOf writesOf
  cases i.mnemonic with
  | lda => exact readClass_writes _ fun v t => (setA_writes t v).trans (setNZLoad_writes _ v)
  | ldx => exact readClass_writes _ fun v t => (setX_writes t v).trans (setNZLoad_writes _ v)
  | ldy => exact readClass_writes _ fun v t => (setY_writes t v).trans (setNZLoad_writes _ v)
  | and | ora | eor => exact readClass_writes _ fun v t => (setA_writes t _).trans (setNZ_writes _ _)
  | cmp | cpx | cpy => exact readClass_writes _ fun v t => compare_writes t _ v
  | bit => exact readClass_writes _ fun v t => bitTest_writes t t.a v
  | adc | sbc => exact decimal_writes _ _ _ fun v t => addWithCarry_writes t t.a _
  | sta | stx | sty => exact fun t u => storeClass_writes
  | txa | tya => exact pure_writes fun t => (setA_writes t _).trans (setNZ_writes _ _)
  | tax | tsx | inx | dex => exact pure_writes fun t => (setX_writes t _).trans (setNZ_writes _ _)
  | tay | iny | dey => exact pure_writes fun t => (setY_writes t _).trans (setNZ_writes _ _)
  | txs => exact pure_writes fun t => setSp_writes t t.x
  | inc => exact modify_writes incByte _ fun v => Writes.refl
  | dec => exact modify_writes decByte _ fun v => Writes.refl
  | asl => exact modify_writes aslByte _ fun v t => setFlag_writes t .c _
  | lsr => exact modify_writes lsrByte _ fun v t => setFlag_writes t .c _
  | rol => exact modify_writes rolByte _ fun v t => setFlag_writes t .c _
  | ror => exact modify_writes rorByte _ fun v t => setFlag_writes t .c _
  | pha | php => exact fun t u => push_writes
  | pla => exact pla_writes
  | plp => exact plp_writes
  | bcc | bcs | beq | bmi | bne | bpl | bvc | bvs => exact branch_writes _ _
  | jmp => exact jmp_writes _ _
  | jsr => exact jsr_writes _ _
  | rts => exact rts_writes
  | brk => exact brk_writes _
  | rti => exact rti_writes
  | clc | sec | cli | sei | clv | cld | sed => exact pure_writes fun t => forceFlag_writes t _ _
  | nop => exact pure_writes Writes.refl

/-- An error that is taken writes no part: it halts, or moves PC and adds cycles. -/
theorem takeError_writes (e : Raise) (op : Byte) (s : State) : Writes [] s (takeError e op s) := by
  unfold takeError
  split <;> exact fun q _ => Part.Same.refl s q

theorem exec_writes {i : Instr} {s t : State} (h : exec i s = .next t) : Writes (writesOf i) s t := by
  rw [exec_eq_complete] at h
  obtain ⟨u, hu, hc⟩ | ⟨e, -, hc⟩ := complete_cases i (bodyOf i s) s <;> cases hc.symm.trans h
  · exact ((setPc_writes s _).trans (bodyOf_writes i s _ u hu)).trans (setCycles_writes u _) |>.mono (by simp)
  · exact (takeError_writes e i.opcode s).mono (List.nil_subset _)

/-- Only the accumulator and memory are a shift's target. -/
theorem ne_target {q : Part} (ha : q ≠ .a) (hm : q ≠ .mem) (o : RmwOperand) : q ≠ o.target := by
  cases o <;> assumption

theorem target_rmwOperandOf (i : Instr) :
    (rmwOperandOf i).target = if i.mode = .acc then .a else .mem := by
  unfold rmwOperandOf
  split <;> rfl

/-- Settles O28: no flag is in the row of an instruction that is not its writer, which is a check of the 56 rows. -/
theorem flagsChangeOnlyByTheirWriters : Obligations.FlagsChangeOnlyByTheirWriters := by
  intro i s t h
  have hw := exec_writes h
  refine ⟨fun hm => ⟨hw (.flag .n) ?n, hw (.flag .z) ?z⟩, fun hm => hw (.flag .v) ?v, fun hm => hw (.flag .c) ?c,
    fun hm => hw (.flag .d) ?d, fun hm => hw (.flag .i) ?i⟩
  all_goals
    revert hm
    unfold writesOf
    cases i.mnemonic <;> simp [Part.nz, Part.restored, ne_target]

/-- Settles O29: the same of the registers and memory; a shift's target is A exactly in its ACC form. -/
theorem registersAndMemoryChangeOnlyByTheirWriters : Obligations.RegistersAndMemoryChangeOnlyByTheirWriters := by
  intro i s t h
  have hw := exec_writes h
  refine ⟨fun hm hacc => hw .a ?a, fun hm => hw .x ?x, fun hm => hw .y ?y, fun hm => hw .sp ?sp,
    fun hstore hrmw hm => hw .mem ?mem⟩
  case a =>
    revert hm
    unfold writesOf
    cases i.mnemonic <;> simp [Part.nz, Part.restored, target_rmwOperandOf, hacc]
  case mem =>
    revert hstore hrmw hm
    unfold writesOf Instr.cls
    by_cases hacc : i.mode = .acc <;> cases i.mnemonic <;> simp [Part.nz, Part.restored, target_rmwOperandOf, hacc]
  all_goals
    revert hm
    unfold writesOf
    cases i.mnemonic <;> simp [Part.nz, Part.restored, ne_target]

end Sys2Proof.Machine
end

section
/-! PROOFS. Memory (20_memory.md): the region of every address range; what memory reads as after one store and after a
sequence of them; the 1-byte, 2-byte and bulk accesses; and the two stack primitives. -/

namespace Sys2Proof.Machine

open Sys2Proof.Claim

/-! ## The ranges of the address map -/

/-- The picture registers (20_memory.md R43). -/
theorem busDecode_ppureg (mirror : Bool) {a : Addr} (hlo : 0x2000 ≤ a.toNat) (hhi : a.toNat ≤ 0x2007) :
    busDecode mirror a = some (.ppureg, a.toNat - 0x2000) := by
  simp [busDecode, hhi, show ¬ a.toNat ≤ 0x1FFF by omega]

/-- Their mirrors, which PPU_REG_MIRROR maps (20_memory.md R41). -/
theorem busDecode_ppuMirror (mirror : Bool) {a : Addr} (hlo : 0x2008 ≤ a.toNat) (hhi : a.toNat ≤ 0x3FFF) :
    busDecode mirror a = if mirror then some (.ppureg, a.toNat % 8) else none := by
  simp [busDecode, hhi, and_7, show ¬ a.toNat ≤ 0x1FFF by omega, show ¬ a.toNat ≤ 0x2007 by omega]

/-- The audio and input registers (20_memory.md R44). -/
theorem busDecode_apuio (mirror : Bool) {a : Addr} (hlo : 0x4000 ≤ a.toNat) (hhi : a.toNat ≤ 0x4017) :
    busDecode mirror a = some (.apuio, a.toNat - 0x4000) := by
  simp [busDecode, hhi, show ¬ a.toNat ≤ 0x1FFF by omega, show ¬ a.toNat ≤ 0x2007 by omega,
    show ¬ a.toNat ≤ 0x3FFF by omega]

/-- The hole above them (20_memory.md R46). -/
theorem busDecode_hole (mirror : Bool) {a : Addr} (hlo : 0x4018 ≤ a.toNat) (hhi : a.toNat ≤ 0x401F) :
    busDecode mirror a = none := by
  simp [busDecode, hhi, show ¬ a.toNat ≤ 0x1FFF by omega, show ¬ a.toNat ≤ 0x2007 by omega,
    show ¬ a.toNat ≤ 0x3FFF by omega, show ¬ a.toNat ≤ 0x4017 by omega]

/-- The unmapped addresses: in every branch of the decoder both sides are decided by the range. -/
theorem busDecode_eq_none_iff (mirror : Bool) (a : Addr) : busDecode mirror a = none ↔
    (0x4018 ≤ a.toNat ∧ a.toNat ≤ 0x401F) ∨ (mirror = false ∧ 0x2008 ≤ a.toNat ∧ a.toNat ≤ 0x3FFF) := by
  simp only [busDecode]
  split_ifs <;> simp [*] <;> omega

/-- Only the addresses of the window at 0x4020 reach the cartridge (20_memory.md R45). -/
theorem region_eq_cart_iff {mirror : Bool} {a : Addr} {r : Region × Nat} (h : busDecode mirror a = some r) :
    r.1 = .cart ↔ 0x4020 ≤ a.toNat := by
  simp only [busDecode] at h
  split_ifs at h <;> cases h <;> simp <;> omega

/-- An address reaches a byte of work RAM exactly when it is one of its four aliases (20_memory.md R42). -/
theorem busDecode_eq_wram_iff (mirror : Bool) (a : Addr) (k : Nat) :
    busDecode mirror a = some (.wram, k) ↔ a.toNat ≤ 0x1FFF ∧ a.toNat % 0x0800 = k := by
  simp only [busDecode, and_7FF]
  split_ifs <;> simp [*]

/-- Every index of a region is reached, through the region's base address. -/
theorem exists_busDecode_eq (mirror : Bool) {r : Region} {k : Nat} (hk : k < r.size) :
    ∃ a : Addr, busDecode mirror a = some (r, k) := by
  have hsmall : r.base + k < 2 ^ 16 := by
    cases r <;> simp only [Region.size] at hk <;> simp only [Region.base] <;> omega
  have hn : (BitVec.ofNat 16 (r.base + k)).toNat = r.base + k := Nat.mod_eq_of_lt hsmall
  refine ⟨BitVec.ofNat 16 (r.base + k), ?_⟩
  cases r <;> simp only [Region.size] at hk <;> simp only [Region.base] at hn ⊢
  case wram => rw [busDecode_eq_wram_iff]; omega
  case ppureg => rw [busDecode_ppureg _ (by omega) (by omega), hn, Nat.add_sub_cancel_left]
  case apuio => rw [busDecode_apuio _ (by omega) (by omega), hn, Nat.add_sub_cancel_left]
  case cart => rw [busDecode_cart _ (by omega), hn, Nat.add_sub_cancel_left]

/-- Settles O48: one lemma for each range of the map, the unmapped set, the bound and the base-plus-index witness. -/
theorem addressDecodeIsTotalAndCoversRegions : Obligations.AddressDecodeIsTotalAndCoversRegions := by
  intro mirror
  refine ⟨fun a => ⟨?wram, ?ppureg, ?mirrored, ?apuio, ?cart⟩, ?unmapped, ?bound, ?reached⟩
  case wram => exact busDecode_wram mirror
  case ppureg => exact fun ⟨hlo, hhi⟩ => busDecode_ppureg mirror hlo hhi
  case mirrored => exact fun hm ⟨hlo, hhi⟩ => (busDecode_ppuMirror mirror hlo hhi).trans (if_pos hm)
  case apuio => exact fun ⟨hlo, hhi⟩ => busDecode_apuio mirror hlo hhi
  case cart => exact busDecode_cart mirror
  case unmapped => exact busDecode_eq_none_iff mirror
  case bound => exact fun a r k h => busDecode_lt h
  case reached => exact fun r k hk => exists_busDecode_eq mirror hk

/-! ## What memory reads as after stores -/

theorem decodeAddr_congr {s t : State} (hp : t.params = s.params) (a : Addr) : t.decodeAddr a = s.decodeAddr a := by
  simp only [State.decodeAddr, hp]

/-- A state with the memory and the parameters of `s` reads as `s`. -/
theorem readsAfter_nil {s t : State} (hp : t.params = s.params) (hm : t.mem = s.mem) : ReadsAfter s t [] :=
  memRead_congr hp hm

/-- One store is read through every address of its cell, and through no other. -/
theorem readsAfter_storeByte {s : State} {a : Addr} {r : Region × Nat} (v : Byte) (h : s.decodeAddr a = some r) :
    ReadsAfter s (storeByte s r v) [(a, v)] := by
  intro x
  by_cases hx : s.decodeAddr a = s.decodeAddr x
  · simp [hx, memRead_storeByte_same v (hx.symm.trans h)]
  · simp [hx, memRead_storeByte_other v h (Ne.symm hx)]

/-- Stores on top of stores: the later ones come first in the list. -/
theorem readsAfter_trans {s t u : State} {first later : List (Addr × Byte)}
    (h : ReadsAfter s t first) (hp : t.params = s.params) (k : ReadsAfter t u later) : ReadsAfter s u (later ++ first) := by
  intro x
  rw [k x, h x]
  simp only [decodeAddr_congr hp, List.find?_append]
  cases later.find? fun e => s.decodeAddr e.1 == s.decodeAddr x <;> rfl

/-- What is read depends on the parameters and the memory of the later state only. -/
theorem readsAfter_congr {s t u : State} {stores : List (Addr × Byte)} (hp : u.params = t.params) (hm : u.mem = t.mem)
    (h : ReadsAfter s t stores) : ReadsAfter s u stores := fun x => (memRead_congr hp hm x).trans (h x)

/-- An instruction's store, which CART_CPU_WRITE drops in the cartridge window (20_memory.md R49). -/
theorem cpuStored_cpuStore {s : State} {a : Addr} {r : Region × Nat} (v : Byte) (h : s.decodeAddr a = some r) :
    CpuStored s (cpuStore s r v) a v := by
  unfold CpuStored cpuStore
  simp only [region_eq_cart_iff h]
  split
  · exact readsAfter_nil rfl rfl
  · exact readsAfter_storeByte v h

/-! ## 1-byte accesses -/

theorem cpuStore_setMem (s : State) (r : Region × Nat) (v : Byte) : (cpuStore s r v).setMem s.mem = s := by
  rw [cpuStore_eq]
  rfl

/-- Settles O51: an access is decided by the decoder's answer; a write at a mapped address is one `cpuStore`. -/
theorem byteWritesAreReadBack : Obligations.ByteWritesAreReadBack := by
  intro s a v
  refine ⟨fun hnone => ⟨memRead_unmapped hnone, memWrite_unmapped v hnone⟩, fun hsome => ?_⟩
  obtain ⟨r, hr⟩ := Option.ne_none_iff_exists'.mp hsome
  exact ⟨⟨_, memRead_of_decode hr⟩, cpuStore s r v, memWrite_of_decode v hr, cpuStore_setMem s r v,
    cpuStored_cpuStore v hr⟩

theorem decodeAddr_wramAlias (s : State) {a i : Nat} (ha : a < 0x0800) (hi : i < 4) :
    s.decodeAddr (BitVec.ofNat 16 (a + 0x0800 * i)) = some (.wram, a) := by
  rw [State.decodeAddr, busDecode_eq_wram_iff, BitVec.toNat_ofNat]
  omega

/-- Settles O49: the four aliases decode to one byte of work RAM, and no other address does. -/
theorem workRamAliasesShareOneByte : Obligations.WorkRamAliasesShareOneByte := by
  intro s a i j v ha hi hj
  have hwrite := decodeAddr_wramAlias s ha hi
  refine ⟨storeByte s (.wram, a) v, ?_, memRead_storeByte_same v (decodeAddr_wramAlias s ha hj), fun x hx => ?_⟩
  · rw [memWrite_of_decode v hwrite, cpuStore_wram]
  · refine memRead_storeByte_other v hwrite fun hsame => ?_
    have hwram := (busDecode_eq_wram_iff _ x a).mp (hsame.trans hwrite)
    omega

/-! ## 2-byte accesses -/

theorem loByte_eq_ofNat (w : Addr) : loByte w = BitVec.ofNat 8 (w.toNat % 256) := by
  rw [← loByte_toNat, BitVec.ofNat_toNat, BitVec.setWidth_eq]

theorem hiByte_eq_ofNat (w : Addr) : hiByte w = BitVec.ofNat 8 (w.toNat / 256) := by
  rw [← hiByte_toNat, BitVec.ofNat_toNat, BitVec.setWidth_eq]

theorem word_eq_hilo (hi lo : Byte) : word hi lo = hilo hi lo := by
  rw [word, ← hilo_toNat, BitVec.ofNat_toNat, BitVec.setWidth_eq]

theorem succ_in_range_of_ne {a : Addr} (h : a ≠ 0xFFFF) : ¬ a.toNat + 1 > 0xFFFF := by
  bv_omega

/-- Below 0xFFFF a 16-bit read is its two bytes' reads (20_memory.md R48). -/
theorem memRead16_eq (s : State) {a : Addr} (h : a ≠ 0xFFFF) :
    memRead16 s a = (memRead s a >>= fun lo => memRead s (a + 1) >>= fun hi => .ok (hilo hi lo)) :=
  if_neg (succ_in_range_of_ne h)

section
variable {s : State} {a : Addr} (w : Addr) (h : a ≠ 0xFFFF)
include h

theorem memWrite16_lo_unmapped (hlo : s.decodeAddr a = none) : memWrite16 s a w = .error (.unmappedAddress a) := by
  simp only [memWrite16, if_neg (succ_in_range_of_ne h), hlo]

theorem memWrite16_hi_unmapped {r : Region × Nat} (hlo : s.decodeAddr a = some r) (hhi : s.decodeAddr (a + 1) = none) :
    memWrite16 s a w = .error (.unmappedAddress (a + 1)) := by
  simp only [memWrite16, if_neg (succ_in_range_of_ne h), hlo, hhi]

/-- Where both addresses are mapped, the low byte is stored and then the high byte (20_memory.md R50). -/
theorem memWrite16_mapped {r q : Region × Nat} (hlo : s.decodeAddr a = some r) (hhi : s.decodeAddr (a + 1) = some q) :
    memWrite16 s a w = .ok (cpuStore (cpuStore s r (loByte w)) q (hiByte w)) := by
  simp only [memWrite16, if_neg (succ_in_range_of_ne h), hlo, hhi]

end

/-- Settles O50: the bound, then the two addresses in order, each decided by the decoder's answer. -/
theorem sixteenBitAccessesAreLittleEndian : Obligations.SixteenBitAccessesAreLittleEndian := by
  intro s a w
  refine ⟨?bound, fun hne hlo => ⟨?low, memWrite16_lo_unmapped w hne hlo⟩, fun hne hlo hhi => ?high,
    fun lo hi hne hlo hhi => ?read, fun hne hlo hhi => ?write⟩
  case bound =>
    rintro rfl
    exact ⟨rfl, rfl⟩
  case low => rw [memRead16_eq s hne, memRead_unmapped hlo, error_bind]
  case high =>
    obtain ⟨r, hr⟩ := Option.ne_none_iff_exists'.mp hlo
    refine ⟨?_, memWrite16_hi_unmapped w hne hr hhi⟩
    rw [memRead16_eq s hne, memRead_of_decode hr, memRead_unmapped hhi, ok_bind, error_bind]
  case read => rw [memRead16_eq s hne, hlo, hhi, ok_bind, ok_bind, word_eq_hilo]
  case write =>
    obtain ⟨r, hr⟩ := Option.ne_none_iff_exists'.mp hlo
    obtain ⟨q, hq⟩ := Option.ne_none_iff_exists'.mp hhi
    rw [← loByte_eq_ofNat, ← hiByte_eq_ofNat]
    exact ⟨_, _, memWrite_of_decode _ hr,
      memWrite_of_decode _ ((decodeAddr_congr (cpuStore_params s r _) _).trans hq), memWrite16_mapped w hne hr hq⟩

/-! ## Bulk writes -/

theorem add_ofNat_succ (a : Addr) (k : Nat) : a + BitVec.ofNat 16 (k + 1) = a + 1 + BitVec.ofNat 16 k := by
  rw [Nat.add_comm, BitVec.ofNat_add, BitVec.add_assoc]
  rfl

theorem firstUnmapped_succ_of_none {s : State} {a : Addr} (n : Nat) (h : s.decodeAddr a = none) :
    firstUnmapped s a (n + 1) = some a := by
  simp only [firstUnmapped, h]

theorem firstUnmapped_succ_of_some {s : State} {a : Addr} (n : Nat) (h : s.decodeAddr a ≠ none) :
    firstUnmapped s a (n + 1) = firstUnmapped s (a + 1) n := by
  obtain ⟨r, hr⟩ := Option.ne_none_iff_exists'.mp h
  simp only [firstUnmapped, hr]

theorem firstUnmapped_eq_none {s : State} {a : Addr} {n : Nat}
    (h : ∀ k < n, s.decodeAddr (a + BitVec.ofNat 16 k) ≠ none) : firstUnmapped s a n = none := by
  induction n generalizing a with
  | zero => rfl
  | succ n ih =>
    have ha : s.decodeAddr a ≠ none := by simpa using h 0 n.succ_pos
    rw [firstUnmapped_succ_of_some n ha]
    exact ih fun k hk => add_ofNat_succ a k ▸ h (k + 1) (Nat.succ_lt_succ hk)

/-- The unmapped address answered is the one with no unmapped address below it in the range. -/
theorem firstUnmapped_eq_some {s : State} {a : Addr} {n k : Nat} (hk : k < n)
    (hnone : s.decodeAddr (a + BitVec.ofNat 16 k) = none)
    (hbelow : ∀ j < k, s.decodeAddr (a + BitVec.ofNat 16 j) ≠ none) :
    firstUnmapped s a n = some (a + BitVec.ofNat 16 k) := by
  induction k generalizing a n with
  | zero =>
    obtain ⟨n, rfl⟩ := Nat.exists_eq_add_of_lt hk
    have ha : s.decodeAddr a = none := by simpa using hnone
    simpa using firstUnmapped_succ_of_none (0 + n) ha
  | succ k ih =>
    obtain ⟨n, rfl⟩ := Nat.exists_eq_succ_of_ne_zero (Nat.ne_zero_of_lt hk)
    have ha : s.decodeAddr a ≠ none := by simpa using hbelow 0 k.succ_pos
    rw [firstUnmapped_succ_of_some n ha]
    rw [add_ofNat_succ] at hnone ⊢
    exact ih (Nat.lt_of_succ_lt_succ hk) hnone fun j hj => add_ofNat_succ a j ▸ hbelow (j + 1) (Nat.succ_lt_succ hj)

/-- The stores of a range in `ReadsAfter`'s order, the latest first. -/
def rangeStores (a : Addr) (bytes : List Byte) : List (Addr × Byte) :=
  (bytes.zipIdx.map (fun e => (a + BitVec.ofNat 16 e.2, e.1))).reverse

theorem rangeStores_cons (a : Addr) (v : Byte) (vs : List Byte) :
    rangeStores a (v :: vs) = rangeStores (a + 1) vs ++ [(a, v)] := by
  simp only [rangeStores, List.zipIdx_cons', List.map_cons, List.reverse_cons, List.map_map, Function.comp_def,
    Prod.map_fst, Prod.map_snd, id_eq, add_ofNat_succ, BitVec.add_zero]

theorem storeBytes_cons_of_decode {s : State} {a : Addr} {r : Region × Nat} (v : Byte) (vs : List Byte)
    (h : s.decodeAddr a = some r) : storeBytes s a (v :: vs) = storeBytes (storeByte s r v) (a + 1) vs := by
  simp only [storeBytes, h]

/-- Bytes stored at mapped addresses are read back, the last store to a cell winning. -/
theorem readsAfter_storeBytes {s : State} {a : Addr} {bytes : List Byte}
    (h : ∀ k < bytes.length, s.decodeAddr (a + BitVec.ofNat 16 k) ≠ none) :
    ReadsAfter s (storeBytes s a bytes) (rangeStores a bytes) := by
  induction bytes generalizing s a with
  | nil => exact readsAfter_nil rfl rfl
  | cons v vs ih =>
    obtain ⟨r, hr⟩ : ∃ r, s.decodeAddr a = some r := Option.ne_none_iff_exists'.mp (by simpa using h 0)
    have hrest : ∀ k < vs.length, (storeByte s r v).decodeAddr (a + 1 + BitVec.ofNat 16 k) ≠ none := fun k hk =>
      add_ofNat_succ a k ▸ h (k + 1) (Nat.succ_lt_succ hk)
    rw [rangeStores_cons, storeBytes_cons_of_decode v vs hr]
    exact readsAfter_trans (readsAfter_storeByte v hr) rfl (ih hrest)

/-- The stores change the memory and nothing else. -/
theorem storeBytes_setMem (s : State) (a : Addr) (bytes : List Byte) : (storeBytes s a bytes).setMem s.mem = s := by
  induction bytes generalizing s a with
  | nil => rfl
  | cons v vs ih =>
    unfold storeBytes
    split
    next r _ =>
      calc (storeBytes (storeByte s r v) (a + 1) vs).setMem s.mem
        _ = ((storeBytes (storeByte s r v) (a + 1) vs).setMem (storeByte s r v).mem).setMem s.mem := rfl
        _ = s := by rw [ih]; rfl
    next => exact ih s (a + 1)

theorem bulkWrite_past_end (s : State) {a : Addr} {bytes : List Byte} (hne : bytes ≠ [])
    (h : 0x10000 < a.toNat + bytes.length) : bulkWrite s a bytes = .error (.outOfBoundsAccess a bytes.length) := by
  rw [bulkWrite, if_neg hne, if_pos (by omega)]

/-- A range that ends by 0xFFFF is decided by its first unmapped address. -/
theorem bulkWrite_in_range (s : State) {a : Addr} {bytes : List Byte} (h : a.toNat + bytes.length ≤ 0x10000) :
    bulkWrite s a bytes = (firstUnmapped s a bytes.length).elim (.ok (storeBytes s a bytes))
      (fun u => .error (.unmappedAddress u)) := by
  unfold bulkWrite
  split
  next hnil => rw [hnil]; rfl
  next =>
    rw [if_neg (by omega)]
    cases firstUnmapped s a bytes.length <;> rfl

/-- Settles O52: the bound, then the first unmapped address, then the stores, whose list grows at its head. -/
theorem bulkWriteIsAllOrNothing : Obligations.BulkWriteIsAllOrNothing := by
  intro s a bytes
  refine ⟨fun hnil => if_pos hnil, bulkWrite_past_end s, fun _ hrange k hk hnone hbelow => ?unmapped,
    fun hrange hmapped => ⟨storeBytes s a bytes, ?stored, storeBytes_setMem s a bytes, readsAfter_storeBytes hmapped⟩⟩
  case unmapped => rw [bulkWrite_in_range s hrange, firstUnmapped_eq_some hk hnone hbelow, Option.elim_some]
  case stored => rw [bulkWrite_in_range s hrange, firstUnmapped_eq_none hmapped, Option.elim_none]

/-! ## The stack -/

/-- The statements' stack byte is the model's. -/
theorem stackAt_eq_stackAddr (s : State) (sp : Byte) : stackAt s sp = (s.setSp sp).stackAddr := by
  have hsp := sp.isLt
  apply BitVec.eq_of_toNat_eq
  rw [stackAddr_toNat, stackAt, BitVec.toNat_ofNat, State.setSp_params, State.setSp_sp]
  cases s.params.stackBase
  case page1 => dsimp only; omega
  case page0 => dsimp only; omega

/-- Every stack byte is one of work RAM, so a read of it never raises (20_memory.md R56). -/
theorem memRead_stackAt (s : State) (sp : Byte) :
    memRead s (stackAt s sp) = .ok (s.mem.get (s.setSp sp).stackAddr.toNat) := by
  rw [stackAt_eq_stackAddr, memRead_of_decode (s := s) (stackAddr_decode (s.setSp sp)), cellOf, Region.base,
    Nat.zero_add]

/-- A push's frame: the designated byte reads as the one pushed, and every other as before (20_memory.md R57). -/
theorem readsAfter_push (s : State) (v : Byte) :
    ReadsAfter s ((storeByte s (.wram, s.stackAddr.toNat) v).setSp (s.sp - 1)) [(stackAt s s.sp, v)] := by
  rw [stackAt_eq_stackAddr]
  exact readsAfter_congr rfl rfl (readsAfter_storeByte v (stackAddr_decode s))

/-- SP designates the byte pushed again once the pull has incremented it (20_memory.md R57, R58). -/
theorem pull_push (s : State) (v : Byte) :
    pull ((storeByte s (.wram, s.stackAddr.toNat) v).setSp (s.sp - 1)) =
      .ok (v, storeByte s (.wram, s.stackAddr.toNat) v) := by
  have hsp : s.sp - 1 + 1 = s.sp := BitVec.sub_add_cancel s.sp 1
  have hcell : (storeByte s (.wram, s.stackAddr.toNat) v).mem.get s.stackAddr.toNat = v := by
    simp [storeByte, cellOf, Region.base]
  rw [pull_eq]
  simp only [State.setSp_sp, hsp]
  exact congrArg (fun u => Except.ok (u, _)) hcell

/-- Settles O9: a push is a store of work RAM and a pull a read of it, which are never unmapped. -/
theorem pushAndPullNeverRaise : Obligations.PushAndPullNeverRaise := by
  intro s v
  exact ⟨⟨_, push_eq v s, rfl, readsAfter_push s v, pull_push s v⟩, _, memRead_stackAt s (s.sp + 1), pull_eq s⟩

end Sys2Proof.Machine
end

section
/-! PROOFS. Encoding (30_encoding.md): how the dispatch entry of an instruction makes it from its operand bytes, and from
that the two round trips of `decode` and `encode`; the opcode map and the two tables; the assembler's branch offset; and
the sentinel's step. -/

namespace Sys2Proof

/-! ## The dispatch entry of an instruction -/

/-- An entry makes `i` from the operand bytes of `i`, and whatever operand bytes it is given, what it makes has the opcode
of `i` and those operand bytes. -/
def DispatchEntry.Makes (i : Instr) : DispatchEntry → Prop
  | .sentinel => False
  | .op0 j => j = i ∧ j.operands = []
  | .op1 f => (∃ b, f b = i) ∧ ∀ b, (f b).opcode = i.opcode ∧ (f b).operands = [b]
  | .op2 f => (∃ w, f w = i) ∧ ∀ w, (f w).opcode = i.opcode ∧ (f w).operands = [loByte w, hiByte w]

/-- The opcode map of 30_encoding.md R85, read by instruction: without an operand the entry is the instruction itself, and
with one it is the instruction's constructor. -/
theorem dispatchEntry_opcode_makes (i : Instr) : (dispatchEntry i.opcode).Makes i := by
  cases i <;> first
    | exact ⟨rfl, rfl⟩
    | exact ⟨⟨_, rfl⟩, fun _ => ⟨rfl, rfl⟩⟩

/-- Every opcode byte but the sentinels' is the opcode of an instruction: of the one it decodes to with zero operands. -/
theorem exists_opcode_eq {op : Byte} (h : ¬ dispatchEntry op matches .sentinel) : ∃ i : Instr, i.opcode = op := by
  have hmap : ∀ op : Byte, dispatchEntry op matches .sentinel ∨ (decodeOp op 0 0).any (·.opcode == op) := by
    decide +kernel
  obtain ⟨i, -, hi⟩ := (Option.any_eq_true _ _).mp ((hmap op).resolve_left h)
  exact ⟨i, eq_of_beq hi⟩

/-- An instruction's opcode and operand bytes decode to it, whatever bytes follow them. -/
theorem decodeOp_opcode_operands (i : Instr) (rest : List Byte) :
    decodeOp i.opcode ((i.operands ++ rest).getD 0 0x00) ((i.operands ++ rest).getD 1 0x00) = some i := by
  have hmakes := dispatchEntry_opcode_makes i
  unfold decodeOp
  cases he : dispatchEntry i.opcode <;> rw [he] at hmakes
  case sentinel => exact hmakes.elim
  case op0 j => exact congrArg some hmakes.1
  case op1 f =>
    obtain ⟨⟨b, rfl⟩, hf⟩ := hmakes
    simp [(hf b).2]
  case op2 f =>
    obtain ⟨⟨w, rfl⟩, hf⟩ := hmakes
    simp [(hf w).2]

/-- What an opcode byte and two more bytes decode to has that opcode and the first of those bytes as its operands. -/
theorem opcode_operands_of_decodeOp {op b1 b2 : Byte} {i : Instr} (h : decodeOp op b1 b2 = some i) :
    i.opcode = op ∧ i.operands <+: [b1, b2] := by
  have hentry : ¬ dispatchEntry op matches .sentinel := fun hs => by simp [(decodeOp_eq_none op b1 b2).mpr hs] at h
  obtain ⟨j, rfl⟩ := exists_opcode_eq hentry
  have hmakes := dispatchEntry_opcode_makes j
  unfold decodeOp at h
  cases he : dispatchEntry j.opcode <;> rw [he] at hmakes <;> simp only [he] at h <;> cases h
  case op0 =>
    obtain ⟨rfl, hops⟩ := hmakes
    exact ⟨rfl, hops ▸ List.nil_prefix⟩
  case op1 f =>
    obtain ⟨hop, hops⟩ := hmakes.2 b1
    exact ⟨hop, hops ▸ ⟨[b2], rfl⟩⟩
  case op2 f =>
    obtain ⟨hop, hops⟩ := hmakes.2 (hilo b2 b1)
    rw [loByte_hilo, hiByte_hilo] at hops
    exact ⟨hop, hops ▸ List.prefix_rfl⟩

/-! ## The round trips -/

/-- A run of bytes decodes when the operand bytes are there and the opcode has an instruction. -/
theorem decode_cons_eq_ok_iff {op : Byte} {bytes rest : List Byte} {i : Instr} :
    decode (op :: bytes) = .ok (i, rest) ↔
      oplen op ≤ bytes.length ∧ decodeOp op (bytes.getD 0 0x00) (bytes.getD 1 0x00) = some i ∧
        bytes.drop (oplen op) = rest := by
  rw [decode]
  split_ifs with hlen
  · simp [hlen]
  · rw [not_lt] at hlen
    cases decodeOp op (bytes.getD 0 0x00) (bytes.getD 1 0x00) <;> simp [hlen]

/-- Settles O42: the operand bytes are the instruction's own, and those OPLEN counts. -/
theorem decodeEncodeRoundTrip : Obligations.DecodeEncodeRoundTrip := by
  intro i rest
  refine decode_cons_eq_ok_iff.mpr ⟨?_, decodeOp_opcode_operands i rest, List.drop_left' (operands_length i)⟩
  simp [operands_length]

/-- Operand bytes taken from the first two bytes of a run, an absent one read as 0x00, are the run's own when it has as
many. -/
theorem prefix_of_prefix_getD {ops bytes : List Byte} (hpre : ops <+: [bytes.getD 0 0x00, bytes.getD 1 0x00])
    (hlen : ops.length ≤ bytes.length) : ops <+: bytes := by
  have hpad : [bytes.getD 0 0x00, bytes.getD 1 0x00] <+: bytes ++ [0x00, 0x00] := by
    obtain _ | ⟨b1, _ | ⟨b2, bytes⟩⟩ := bytes <;> simp
  exact List.prefix_of_prefix_length_le (hpre.trans hpad) (List.prefix_append bytes _) hlen

/-- Settles O43: the opcode and the operand bytes of what is decoded are the bytes it was decoded from. -/
theorem encodeDecodeRoundTrip : Obligations.EncodeDecodeRoundTrip := by
  intro bytes rest i h
  cases bytes with
  | nil => cases h
  | cons op bytes =>
    obtain ⟨hlen, hdecode, rfl⟩ := decode_cons_eq_ok_iff.mp h
    obtain ⟨rfl, hpre⟩ := opcode_operands_of_decodeOp hdecode
    rw [← operands_length] at hlen ⊢
    obtain ⟨tail, rfl⟩ := prefix_of_prefix_getD hpre hlen
    rw [List.drop_left, encode, List.cons_append]

/-! ## The opcode map and the two tables -/

/-- The opcode map by mnemonic and the dispatch table agree (30_encoding.md R85). -/
theorem opcode?_mnemonic_mode (i : Instr) : i.mnemonic.opcode? i.mode = some i.opcode := by cases i <;> rfl

/-- The length table gives the operand bytes of the mode, and BRK's padding byte (30_encoding.md R82). -/
theorem oplen_opcode (i : Instr) : oplen i.opcode = i.operandBytes := by cases i <;> rfl

/-- Settles O44: the opcode is the one decoded, and the tables agree on every instruction. -/
theorem lengthTableAgreesWithDispatch : Obligations.LengthTableAgreesWithDispatch := by
  intro op b1 b2 i h
  obtain ⟨rfl, -⟩ := opcode_operands_of_decodeOp h
  exact ⟨rfl, opcode?_mnemonic_mode i, operands_length i, oplen_opcode i⟩

/-- The sentinels of the dispatch table are the opcodes of the lists, with their lengths (30_encoding.md R86, R87). -/
theorem dispatchEntry_sentinel_iff (op : Byte) :
    (dispatchEntry op matches .sentinel) ↔ (op, oplen op) ∈ Claim.sentinelLengths := by
  revert op
  decide +kernel

/-- Settles O45: an opcode has no instruction when its dispatch entry is a sentinel. -/
theorem unimplementedOpcodesAreListed : Obligations.UnimplementedOpcodesAreListed :=
  ⟨rfl, fun op b1 b2 => (decodeOp_eq_none op b1 b2).trans (dispatchEntry_sentinel_iff op)⟩

/-- Settles O46: each word is the encoding of its instruction, and 0x02 is a sentinel. -/
theorem specWordsDecode : Obligations.SpecWordsDecode :=
  have hdecode := decodeEncodeRoundTrip
  ⟨hdecode (.ldaImm 0x42) [], hdecode (.staAbs 0x0800) [], hdecode (.ldxZpy 0xFF) [], hdecode .pha [],
    hdecode (.adcAbsy 0x0300) [], hdecode (.rorAbsx 0x0300) [], hdecode (.bne 0x05) [], hdecode (.jmpInd 0x02FF) [],
    hdecode (.brk 0xEA) [], hdecode (.jsr 0xD000) [], hdecode .sed [], rfl⟩

/-! ## The assembler -/

section
variable {m : Mnemonic} {op : Byte} {target : Nat} (pc : Addr) (habs : m.opcode? .abs = none)
  (hrel : m.opcode? .rel = some op) (htarget : target ≤ 0xFFFF)
include habs hrel

/-- A four-digit operand of a mnemonic with a relative and no absolute form is a branch target (log 15). -/
theorem mode?_branch (target : Nat) : AsmLine.mode? ⟨m, .long target⟩ = some .rel := by
  simp [AsmLine.mode?, AsmOperand.modes, habs, hrel]

include htarget

/-- A branch to an address is accepted when the address is in reach (30_encoding.md R89). -/
theorem wellFormed_branch_iff : AsmLine.wellFormed ⟨m, .long target⟩ pc = true ↔
    pc.toNat + 2 ≤ target + 128 ∧ target ≤ pc.toNat + 2 + 127 := by
  have hfits : (AsmOperand.long target).fits = true := decide_eq_true htarget
  simp only [AsmLine.wellFormed, AsmLine.formOk, AsmLine.reaches, mode?_branch habs hrel target, hfits,
    Option.isSome_some, bne_self_eq_false, Bool.false_or, Bool.true_and, Bool.and_eq_true, decide_eq_true_eq]
  rfl

/-- It is assembled to its opcode and the low byte of the 16-bit displacement (30_encoding.md R89). -/
theorem assemble_branch : AsmLine.assemble ⟨m, .long target⟩ pc =
    if pc.toNat + 2 ≤ target + 128 ∧ target ≤ pc.toNat + 2 + 127 then
      some [op, loByte (BitVec.ofNat 16 target - (pc + 2))]
    else none := by
  simp only [AsmLine.assemble, wellFormed_branch_iff pc habs hrel htarget, mode?_branch habs hrel target, hrel,
    Option.map_some, AsmLine.operandBytes, AsmOperand.value]

end

/-- In reach, the low byte of the 16-bit displacement is the displacement. -/
theorem toInt_loByte_displacement {pc : Addr} {target : Nat} (hlo : pc.toNat + 2 ≤ target + 128)
    (hhi : target ≤ pc.toNat + 2 + 127) :
    (loByte (BitVec.ofNat 16 target - (pc + 2))).toInt = (target : Int) - ((pc.toNat : Int) + 2) := by
  have htwo : (2 : Addr).toNat = 2 := rfl
  rw [BitVec.toInt_eq_toNat_cond, loByte_toNat, BitVec.toNat_sub, BitVec.toNat_add, BitVec.toNat_ofNat, htwo]
  split <;> omega

/-- Settles O47: each branch mnemonic has a relative form of the listed opcode and no absolute one. -/
theorem assemblerEncodesBranchOffset : Obligations.AssemblerEncodesBranchOffset := by
  intro pc target htarget mo hmo
  obtain ⟨habs, hrel⟩ : mo.1.opcode? .abs = none ∧ mo.1.opcode? .rel = some mo.2 := by
    revert mo
    decide
  rw [assemble_branch pc habs hrel htarget]
  exact ⟨fun ⟨hlo, hhi⟩ => ⟨_, if_pos (by omega), toInt_loByte_displacement (by omega) (by omega)⟩,
    fun hout => if_neg (by omega)⟩

end Sys2Proof

namespace Sys2Proof.Machine

open Sys2Proof.Claim

/-! ## The sentinel's step -/

/-- An operand byte that is absent or mapped is fetched. -/
theorem fetchOperand_of_mapped {s : State} {n k : Nat} (h : k ≤ n → s.decodeAddr (s.pc + BitVec.ofNat 16 k) ≠ none) :
    ∃ b, fetchOperand s n k = .ok b := by
  unfold fetchOperand
  split
  next => exact ⟨_, rfl⟩
  next hk =>
    obtain ⟨r, hr⟩ := Option.ne_none_iff_exists'.mp (h (not_lt.mp hk))
    exact ⟨_, memRead_of_decode hr⟩

/-- Phase F succeeds when the instruction's bytes are inside the space and mapped (40_step_and_addressing.md R100). -/
theorem fetch_of_mapped {s : State} {op : Byte} (hop : memRead s s.pc = .ok op) (hbound : s.pc.toNat + oplen op ≤ 0xFFFF)
    (hmapped : ∀ k, 1 ≤ k → k ≤ oplen op → s.decodeAddr (s.pc + BitVec.ofNat 16 k) ≠ none) :
    ∃ b1 b2, fetch s = .ok ⟨op, b1, b2⟩ := by
  obtain ⟨b1, hb1⟩ := fetchOperand_of_mapped (hmapped 1 le_rfl)
  obtain ⟨b2, hb2⟩ := fetchOperand_of_mapped (hmapped 2 one_le_two)
  exact ⟨b1, b2, by simp [fetch, hop, hb1, hb2, hbound]⟩

/-- A fetched opcode without an instruction goes to the sentinel (60_exceptions.md R242). -/
theorem step_sentinel {s : State} {f : Fetched} (hrun : s.run = .running) (hf : fetch s = .ok f)
    (hd : decodeOp f.op f.b1 f.b2 = none) : step s = .next (sentinel f.op s) := by
  simp only [step_running hrun, hf, hd]

/-- The sentinel skips under UNIMPL_POLICY = skip, and halts otherwise (60_exceptions.md R243). -/
theorem sentinel_eq (op : Byte) (s : State) :
    sentinel op s = if s.params.unimpl = .skip then skipOn (.unimplementedOpcode op s.pc) op s
      else haltOn (.unimplementedOpcode op s.pc) (some op) s := by
  simp [sentinel, takeError, skips, Raise.kind]

/-- A listed opcode has the listed length and no instruction (30_encoding.md R86, R87). -/
theorem oplen_and_decodeOp_of_mem_sentinelLengths {op : Byte} {n : Nat} (h : (op, n) ∈ sentinelLengths) :
    oplen op = n ∧ ∀ b1 b2, decodeOp op b1 b2 = none := by
  have hlens : ∀ opn ∈ sentinelLengths, oplen opn.1 = opn.2 := by decide +kernel
  obtain rfl : oplen op = n := hlens _ h
  exact ⟨rfl, fun b1 b2 => (unimplementedOpcodesAreListed.2 op b1 b2).mpr h⟩

/-- Settles O33: the bytes are fetched, the opcode has no instruction, and the sentinel takes its error. -/
theorem unimplementedOpcodesReachSentinel : Obligations.UnimplementedOpcodesReachSentinel := by
  rintro s ⟨op, n⟩ hlisted hrun hop hbound hmapped
  obtain ⟨rfl, hnone⟩ := oplen_and_decodeOp_of_mem_sentinelLengths hlisted
  obtain ⟨b1, b2, hf⟩ := fetch_of_mapped hop hbound hmapped
  rw [step_sentinel hrun hf (hnone b1 b2), sentinel_eq]
  rfl

end Sys2Proof.Machine
end

section
/-! PROOFS. The step and the addressing (40_step_and_addressing.md): the effective addresses in the statements' arithmetic;
the step at an encoded instruction; the errors of phase F; that a running machine always steps, and what a step costs. -/

namespace Sys2Proof.Machine

open Sys2Proof.Claim

/-! ## Effective addresses (40_step_and_addressing.md R111 to R117) -/

/-- The statements' byte of page zero is the model's: the sum modulo 256, never carried into page one. -/
theorem zp_eq_zext16 (n : Nat) : zp n = zext16 (BitVec.ofNat 8 n) := by
  apply BitVec.eq_of_toNat_eq
  simp only [zp, zext16, BitVec.toNat_setWidth, BitVec.toNat_ofNat]

theorem zp_toNat (b : Byte) : zp b.toNat = zext16 b := by
  rw [zp_eq_zext16, BitVec.ofNat_toNat, BitVec.setWidth_eq]

theorem zp_toNat_add (b x : Byte) : zp (b.toNat + x.toNat) = zext16 (b + x) := by
  rw [zp_eq_zext16, BitVec.ofNat_add, BitVec.ofNat_toNat, BitVec.ofNat_toNat, BitVec.setWidth_eq, BitVec.setWidth_eq]

theorem add_zext16 (w : Addr) (x : Byte) : w + zext16 x = BitVec.ofNat 16 (w.toNat + x.toNat) := by
  rw [BitVec.ofNat_add, BitVec.ofNat_toNat, BitVec.setWidth_eq, zext16, ← BitVec.ofNat_toNat]

/-- Page zero is work RAM (20_memory.md R42). -/
theorem decodeAddr_zp (s : State) (n : Nat) : s.decodeAddr (zp n) ≠ none := by
  intro h
  have hread := memRead_zeroPage s (BitVec.ofNat 8 n)
  rw [← zp_eq_zext16, memRead_unmapped h] at hread
  cases hread

/-- A pointer's high byte is the one after its low byte, within page zero (40_step_and_addressing.md R116, R117). -/
theorem zpPointer_of_reads {s : State} {z lo hi : Byte} {n : Nat} (hz : BitVec.ofNat 8 n = z)
    (hlo : memRead s (zp n) = .ok lo) (hhi : memRead s (zp (n + 1)) = .ok hi) : zpPointer s z = .ok (word hi lo) := by
  have hz' : BitVec.ofNat 8 (n + 1) = z + 1 := by simp [← hz, BitVec.ofNat_add]
  rw [zp_eq_zext16, hz] at hlo
  rw [zp_eq_zext16, hz'] at hhi
  rw [zpPointer, hlo, ok_bind, hhi, ok_bind, word_eq_hilo]

/-- Settles O30: each mode's sum is the statement's, and a pointer is the word of its two bytes. -/
theorem effectiveAddressesByMode : Obligations.EffectiveAddressesByMode := by
  intro s b lo hi w
  have hb : BitVec.ofNat 8 b.toNat = b := by simp
  have hbx : BitVec.ofNat 8 (b.toNat + s.x.toNat) = b + s.x := by simp [BitVec.ofNat_add]
  refine ⟨decodeAddr_zp s, fun m => ea_ok m s, ?zp, ?zpx, ?zpy, rfl, ?absx, ?absy, fun hpost hlo hhi => ?indx,
    fun hpost hlo hhi => ?indxPost, fun hlo hhi => ?indy⟩
  case zp => rw [zp_toNat, MemOperand.ea]
  case zpx => rw [zp_toNat_add, MemOperand.ea]
  case zpy => rw [zp_toNat_add, MemOperand.ea]
  case absx => rw [← add_zext16, MemOperand.ea]
  case absy => rw [← add_zext16, MemOperand.ea]
  case indx => simp only [MemOperand.ea, hpost, Bool.false_eq_true, if_false, zpPointer_of_reads hbx hlo hhi]
  case indxPost => simp only [MemOperand.ea, hpost, if_true, zpPointer_of_reads hb hlo hhi, ok_bind, add_zext16]
  case indy => simp only [MemOperand.ea, zpPointer_of_reads hb hlo hhi, ok_bind, add_zext16]

/-! ## Phase F and the step (40_step_and_addressing.md R100, 60_exceptions.md R241 to R245) -/

theorem fetchOperand_unmapped {s : State} {n k : Nat} (hk : k ≤ n)
    (h : s.decodeAddr (s.pc + BitVec.ofNat 16 k) = none) :
    fetchOperand s n k = .error (.unmappedAddress (s.pc + BitVec.ofNat 16 k)) := by
  rw [fetchOperand, if_neg (not_lt.mpr hk), memRead_unmapped h]

theorem fetch_opcode_unmapped {s : State} (h : s.decodeAddr s.pc = none) :
    fetch s = .error ⟨.unmappedAddress s.pc, none⟩ := by
  simp only [fetch, memRead_unmapped h]

section
variable {s : State} {op : Byte} (hop : memRead s s.pc = .ok op)
include hop

theorem fetch_past_end (hbound : 0xFFFF < s.pc.toNat + oplen op) :
    fetch s = .error ⟨.outOfBoundsAccess s.pc (1 + oplen op), some op⟩ := by
  simp only [fetch, hop, gt_iff_lt, if_pos hbound]

variable (hbound : s.pc.toNat + oplen op ≤ 0xFFFF)
include hbound

theorem fetch_operand1_error {e : Raise} (h1 : fetchOperand s (oplen op) 1 = .error e) :
    fetch s = .error ⟨e, some op⟩ := by
  simp only [fetch, hop, gt_iff_lt, if_neg (not_lt.mpr hbound), h1]

theorem fetch_operand2_error {b1 : Byte} {e : Raise} (h1 : fetchOperand s (oplen op) 1 = .ok b1)
    (h2 : fetchOperand s (oplen op) 2 = .error e) : fetch s = .error ⟨e, some op⟩ := by
  simp only [fetch, hop, gt_iff_lt, if_neg (not_lt.mpr hbound), h1, h2]

theorem fetch_ok {b1 b2 : Byte} (h1 : fetchOperand s (oplen op) 1 = .ok b1)
    (h2 : fetchOperand s (oplen op) 2 = .ok b2) : fetch s = .ok ⟨op, b1, b2⟩ := by
  simp only [fetch, hop, gt_iff_lt, if_neg (not_lt.mpr hbound), h1, h2]

end

/-- An error of phase F halts whatever the policies (60_exceptions.md R244). -/
theorem step_fetch_error {s : State} {e : Raise} {op : Option Byte} (hrun : s.run = .running)
    (hf : fetch s = .error ⟨e, op⟩) : step s = .next (fetchHalted e op s) := by
  simp only [step_running hrun, hf]
  rfl

/-- Settles O32: each error is the first that phase F meets, and halts. -/
theorem fetchErrorsHalt : Obligations.FetchErrorsHalt := by
  intro s op hrun
  refine ⟨fun hpc => ?opcode, fun hop hend => ?pastEnd, fun hop hbound hlen h1 => ?operand1,
    fun hop hbound hlen h1 h2 => ?operand2⟩
  case opcode => exact step_fetch_error hrun (fetch_opcode_unmapped hpc)
  case pastEnd => exact step_fetch_error hrun (fetch_past_end hop hend)
  case operand1 => exact step_fetch_error hrun (fetch_operand1_error hop hbound (fetchOperand_unmapped hlen h1))
  case operand2 =>
    obtain ⟨b1, hb1⟩ := fetchOperand_of_mapped fun _ : 1 ≤ oplen op => h1
    exact step_fetch_error hrun (fetch_operand2_error hop hbound hb1 (fetchOperand_unmapped hlen.ge h2))

/-- A fetched opcode with an instruction is executed. -/
theorem step_exec {s : State} {f : Fetched} {i : Instr} (hrun : s.run = .running) (hf : fetch s = .ok f)
    (hd : decodeOp f.op f.b1 f.b2 = some i) : step s = exec i s := by
  simp only [step_running hrun, hf, hd]

/-- An operand byte of an instruction encoded at PC is fetched, and an absent one is 0x00 (00_scope.md R4). -/
theorem fetchOperand_encoded {s : State} {i : Instr} (k : Nat)
    (hbytes : ∀ (k : Nat) (h : k < (encode i).length), memRead s (s.pc + BitVec.ofNat 16 k) = .ok ((encode i)[k]'h)) :
    fetchOperand s (oplen i.opcode) (k + 1) = .ok (i.operands.getD k 0x00) := by
  rw [fetchOperand, ← operands_length]
  split_ifs with hk
  · rw [List.getD_eq_default _ _ (by omega)]
  · rw [List.getD_eq_getElem _ _ (by omega)]
    exact hbytes (k + 1) (by simp only [encode, List.length_cons]; omega)

/-- Settles O31: phase F fetches the encoding's bytes, which decode to the instruction. -/
theorem stepRunsDecodedInstruction : Obligations.StepRunsDecodedInstruction := by
  intro s i hrun hend hbytes
  have hop : memRead s s.pc = .ok i.opcode := by simpa [encode] using hbytes 0 (by simp [encode])
  have hbound : s.pc.toNat + oplen i.opcode ≤ 0xFFFF := by
    rw [encode, List.length_cons, operands_length] at hend
    omega
  have hf := fetch_ok hop hbound (fetchOperand_encoded 0 hbytes) (fetchOperand_encoded 1 hbytes)
  exact step_exec hrun hf (by simpa using decodeOp_opcode_operands i [])

/-! ## What a step answers and costs (40_step_and_addressing.md R103, R104) -/

/-- An instruction completes, whether its body raises or not. -/
theorem exists_exec_eq_next (i : Instr) (s : State) : ∃ t, exec i s = .next t := by
  obtain ⟨body, hexec, -⟩ := exec_lawful i s
  rw [hexec]
  obtain ⟨t, -, hc⟩ | ⟨e, -, hc⟩ := complete_cases i body s <;> exact ⟨_, hc⟩

/-- Settles O35: a halt of phase F, the sentinel and an instruction each answer a next state. -/
theorem runningMachineAlwaysSteps : Obligations.RunningMachineAlwaysSteps := by
  intro s hrun
  obtain ⟨e, -, hs⟩ | ⟨f, -, -, -, hs⟩ | ⟨f, i, -, -, -, hs⟩ := step_cases hrun
  · exact ⟨_, hs⟩
  · exact ⟨_, hs⟩
  · rw [hs]
    exact exists_exec_eq_next i s

/-- A step from `s` halts in `t` and is free, or ends Running and costs what the table gives `op`. -/
def HaltsFreeOrPays (op : Byte) (s t : State) : Prop :=
  (t.run ≠ .running ∧ t.cycles = s.cycles) ∨ (t.run = .running ∧ t.cycles = s.cycles + nominalCost s.params op)

theorem takeError_haltsFreeOrPays (e : Raise) (op : Byte) {s : State} (hrun : s.run = .running) :
    HaltsFreeOrPays op s (takeError e op s) := by
  unfold takeError
  split
  · exact .inr ⟨hrun, rfl⟩
  · exact .inl ⟨nofun, rfl⟩

theorem exec_haltsFreeOrPays {i : Instr} {s t : State} (hrun : s.run = .running) (h : exec i s = .next t) :
    HaltsFreeOrPays i.opcode s t := by
  obtain ⟨body, hexec, hlaw⟩ := exec_lawful i s
  rw [hexec] at h
  obtain ⟨u, hu, hc⟩ | ⟨e, -, hc⟩ := complete_cases i body s <;> cases hc.symm.trans h
  · exact .inr ⟨(hlaw.ok _ u hu).run.trans hrun, rfl⟩
  · exact takeError_haltsFreeOrPays e i.opcode hrun

/-- A step halts by phase F, for free, or has fetched the opcode at PC and halts for free or pays its cost. -/
theorem step_haltsFreeOrPays {s t : State} (h : step s = .next t) :
    (t.run ≠ .running ∧ t.cycles = s.cycles) ∨ ∃ op, memRead s s.pc = .ok op ∧ HaltsFreeOrPays op s t := by
  have hrun := run_of_step h
  obtain ⟨e, -, hs⟩ | ⟨f, -, hop, -, hs⟩ | ⟨f, i, -, hop, hd, hs⟩ := step_cases hrun
  · cases hs.symm.trans h
    exact .inl ⟨nofun, rfl⟩
  · cases hs.symm.trans h
    exact .inr ⟨f.op, hop, takeError_haltsFreeOrPays _ f.op hrun⟩
  · obtain ⟨hopcode, -⟩ := opcode_operands_of_decodeOp hd
    exact .inr ⟨f.op, hop, hopcode ▸ exec_haltsFreeOrPays hrun (hs.symm.trans h)⟩

/-- Settles O37: a step that ends Running has paid for the opcode it fetched, and one that halts is free. -/
theorem cyclesAddNominalCost : Obligations.CyclesAddNominalCost := by
  intro s t h
  obtain ⟨hhalt, hfree⟩ | ⟨op, hop, ⟨hhalt, hfree⟩ | ⟨hrun, hpaid⟩⟩ := step_haltsFreeOrPays h
  · exact ⟨fun hrun => absurd hrun hhalt, fun _ => hfree⟩
  · exact ⟨fun hrun => absurd hrun hhalt, fun _ => hfree⟩
  · exact ⟨fun _ => ⟨op, hop, hpaid⟩, fun hhalt => absurd hrun hhalt⟩

end Sys2Proof.Machine
end

section
/-! PROOFS. Loads, stores and transfers (41_load_store_transfer.md): how an instruction ends, in the statements' terms; the
operand families of the read class and of the memory forms with their UnmappedAddress clause, for every mnemonic of the
class; and the loads, the stores and the six transfers. -/

namespace Sys2Proof.Machine

open Sys2Proof.Claim

/-! ## The two result flags (10_state.md R18, R20) -/

/-- The statements' value of a result flag is the model's. -/
theorem flag_eq_flagValue (only cond old : Bool) : flag only cond old = flagValue only cond old := by
  cases only <;> cases cond <;> rfl

theorem beq_zero_eq_decide_toNat (v : Byte) : (v == 0x00) = decide (v.toNat = 0) := by
  rw [beq_eq_decide, decide_eq_decide, ← BitVec.toNat_inj]
  rfl

theorem setNZ_eq_withNZ (v : Byte) (s : State) : setNZ v s = { s with p := withNZ s v s.p } := by
  rw [setNZ_eq, beq_zero_eq_decide_toNat, BitVec.msb_eq_decide, withNZ, flag_eq_flagValue, flag_eq_flagValue]
  rfl

theorem setNZLoad_eq_withNZLoad (v : Byte) (s : State) : setNZLoad v s = { s with p := withNZLoad s v s.p } := by
  rw [setNZLoad_eq, beq_zero_eq_decide_toNat, BitVec.msb_eq_decide, withNZLoad, flag_eq_flagValue, flag_eq_flagValue]
  rfl

/-! ## How an instruction ends (40_step_and_addressing.md R101 to R104) -/

/-- PC past the bytes of an instruction at PC. -/
def State.pcAfter (s : State) (i : Instr) : Addr := s.pc + BitVec.ofNat 16 (encode i).length

theorem fall_eq_pcAfter (i : Instr) (s : State) : s.fall i.opcode = s.pcAfter i := by
  rw [State.fall, State.pcAfter, encode, List.length_cons, operands_length, BitVec.add_assoc, Nat.add_comm,
    BitVec.ofNat_add]
  rfl

/-- A body that raises nothing is committed, and the nominal cost is added. -/
theorem exec_of_body_ok {i : Instr} {s t : State} (h : bodyOf i s (s.setPc (s.pcAfter i)) = .ok t) :
    exec i s = .next (t.setCycles (s.cycles + nominalCost s.params i.opcode)) := by
  rw [exec_eq_complete, complete_ok ((fall_eq_pcAfter i s).symm ▸ h)]

/-- An error that is taken is a skip under its policy, and a halt otherwise (60_exceptions.md R241 to R246). -/
theorem takeError_eq_errorTaken (e : Raise) (i : Instr) (s : State) :
    takeError e i.opcode s = errorTaken i e (skips s.params e.kind) s := by
  unfold takeError errorTaken
  split
  · rw [skipOn, fall_eq_pcAfter]
    rfl
  · rfl

/-- A body that raises leaves none of its effects. -/
theorem exec_of_body_error {i : Instr} {s : State} {e : Raise} (h : bodyOf i s (s.setPc (s.pcAfter i)) = .error e) :
    exec i s = .next (errorTaken i e (skips s.params e.kind) s) := by
  rw [exec_eq_complete, complete_error ((fall_eq_pcAfter i s).symm ▸ h), takeError_eq_errorTaken]

/-! ## The read class (40_step_and_addressing.md R119, R122) -/

/-- A list of forms of mnemonic `m`, each with the operand that its mode and its bytes give it. -/
def ReadFormsOf (m : Mnemonic) (forms : Byte → Byte → Addr → List (Instr × ReadOperand)) : Prop :=
  ∀ k b w, ∀ io ∈ forms k b w, io.1.mnemonic = m ∧ readOperandOf io.1 = io.2

/-- A read-class body reads its operand first, and raises what the read raises. -/
theorem bodyOf_read_error {i : Instr} {s t : State} {e : Raise} (hcls : i.cls = .read)
    (h : (readOperandOf i).value t = .error e) : bodyOf i s t = .error e := by
  unfold bodyOf
  cases hm : i.mnemonic with
  | lda | ldx | ldy | adc | sbc | and | ora | eor | cmp | cpx | cpy | bit => exact bind_eq_error.mpr (.inl h)
  | _ => simp [Instr.cls, hm, ite_eq_iff] at hcls

theorem value_unmapped {m : MemOperand} {s : State} {ea : Addr} (h : m.ea s = .ok ea) (hnone : s.decodeAddr ea = none) :
    (ReadOperand.mem m).value s = .error (.unmappedAddress ea) := by
  rw [ReadOperand.value, h, ok_bind, memRead_unmapped hnone]

theorem value_of_operand {o : ReadOperand} {s : State} {v : Byte} (h : Operand s o v) : o.value s = .ok v := by
  cases o with
  | imm k => exact congrArg Except.ok h
  | mem m =>
    obtain ⟨ea, hea, hread⟩ := h
    exact value_mem_ok hea hread

/-- The opcode bytes and the UnmappedAddress clause of a read-class mnemonic. -/
theorem readForms_of_mnemonic {m : Mnemonic} {forms : Byte → Byte → Addr → List (Instr × ReadOperand)}
    {opcodes : List Byte} (hcls : ∀ i : Instr, i.mnemonic = m → i.cls = .read) (hforms : ReadFormsOf m forms)
    (hops : ∀ k b w, (forms k b w).map (fun io => (encode io.1).head?) = opcodes.map some) :
    ReadForms forms opcodes := by
  refine fun s k b w => ⟨hops k b w, fun io hio mo ea hmo hea hnone => ?_⟩
  obtain ⟨hm, ho⟩ := hforms k b w io hio
  have hvalue : (readOperandOf io.1).value (s.setPc (s.pcAfter io.1)) = .error (.unmappedAddress ea) := by
    rw [ho, hmo, value_setPc, value_unmapped hea hnone]
  exact exec_of_body_error (bodyOf_read_error (hcls io.1 hm) hvalue)

/-- A read-class instruction whose operand is read does what its function says to the state with PC past it. -/
theorem exec_readClass {i : Instr} {o : ReadOperand} {f : Byte → State → State} {s : State} {v : Byte}
    (hbody : bodyOf i s = readClass o f) (hv : Operand s o v) :
    exec i s = .next ((f v (s.setPc (s.pcAfter i))).setCycles (s.cycles + nominalCost s.params i.opcode)) := by
  have hvalue : o.value (s.setPc (s.pcAfter i)) = .ok v := (value_setPc o s _).trans (value_of_operand hv)
  exact exec_of_body_ok (hbody ▸ readClass_ok hvalue)

/-! ## Loads (41_load_store_transfer.md R140 to R142) -/

/-- A load writes a register, and then Z and N from the same byte. -/
theorem exec_load {i : Instr} {o : ReadOperand} {write : Byte → State → State} {s : State} {v : Byte}
    (hbody : bodyOf i s = readClass o fun v t => setNZLoad v (write v t)) (hv : Operand s o v) :
    exec i s = .next { write v (s.setPc (s.pcAfter i)) with
      p := withNZLoad (write v (s.setPc (s.pcAfter i))) v (write v (s.setPc (s.pcAfter i))).p
      cycles := s.cycles + nominalCost s.params i.opcode } := by
  rw [exec_readClass hbody hv, setNZLoad_eq_withNZLoad]
  rfl

theorem readFormsOf_lda : ReadFormsOf .lda ldaForms := by
  intro k b w
  have hw := hilo_hiByte_loByte w
  simp only [ldaForms, List.forall_mem_cons]
  exact ⟨⟨rfl, rfl⟩, ⟨rfl, rfl⟩, ⟨rfl, rfl⟩, ⟨rfl, congrArg (ReadOperand.mem <| .abs ·) hw⟩, ⟨rfl, rfl⟩, ⟨rfl, rfl⟩,
    ⟨rfl, congrArg (ReadOperand.mem <| .absy ·) hw⟩, ⟨rfl, congrArg (ReadOperand.mem <| .absx ·) hw⟩, List.forall_mem_nil _⟩

theorem readFormsOf_ldx : ReadFormsOf .ldx ldxForms := by
  intro k b w
  have hw := hilo_hiByte_loByte w
  simp only [ldxForms, List.forall_mem_cons]
  exact ⟨⟨rfl, rfl⟩, ⟨rfl, rfl⟩, ⟨rfl, congrArg (ReadOperand.mem <| .abs ·) hw⟩, ⟨rfl, rfl⟩,
    ⟨rfl, congrArg (ReadOperand.mem <| .absy ·) hw⟩, List.forall_mem_nil _⟩

theorem readFormsOf_ldy : ReadFormsOf .ldy ldyForms := by
  intro k b w
  have hw := hilo_hiByte_loByte w
  simp only [ldyForms, List.forall_mem_cons]
  exact ⟨⟨rfl, rfl⟩, ⟨rfl, rfl⟩, ⟨rfl, congrArg (ReadOperand.mem <| .abs ·) hw⟩, ⟨rfl, rfl⟩,
    ⟨rfl, congrArg (ReadOperand.mem <| .absx ·) hw⟩, List.forall_mem_nil _⟩

/-- Settles O1: every form is the mnemonic's one body at the form's operand. -/
theorem ldaLoadsAccumulator : Obligations.LdaLoadsAccumulator := by
  refine ⟨readForms_of_mnemonic (fun i hm => by simp only [Instr.cls, hm]) readFormsOf_lda fun k b w => rfl,
    fun s k b v w io hio hv => ?_⟩
  obtain ⟨hm, ho⟩ := readFormsOf_lda k b w io hio
  have hbody : bodyOf io.1 s = lda io.2 := by simp only [bodyOf, hm, ho]
  exact exec_load (write := fun v t => t.setA v) hbody hv

/-- Settles O2: the same of the two index registers. -/
theorem ldxLdyLoadIndexRegisters : Obligations.LdxLdyLoadIndexRegisters := by
  refine ⟨readForms_of_mnemonic (fun i hm => by simp only [Instr.cls, hm]) readFormsOf_ldx fun k b w => rfl,
    readForms_of_mnemonic (fun i hm => by simp only [Instr.cls, hm]) readFormsOf_ldy fun k b w => rfl,
    fun s k b v w io hio hv => ?ldx, fun s k b v w io hio hv => ?ldy⟩
  case ldx =>
    obtain ⟨hm, ho⟩ := readFormsOf_ldx k b w io hio
    have hbody : bodyOf io.1 s = ldx io.2 := by simp only [bodyOf, hm, ho]
    exact exec_load (write := fun v t => t.setX v) hbody hv
  case ldy =>
    obtain ⟨hm, ho⟩ := readFormsOf_ldy k b w io hio
    have hbody : bodyOf io.1 s = ldy io.2 := by simp only [bodyOf, hm, ho]
    exact exec_load (write := fun v t => t.setY v) hbody hv

/-! ## Memory forms (40_step_and_addressing.md R120, R122, 44_inc_dec_shift.md R190) -/

/-- A list of memory forms of mnemonic `m`, each with the operand that its mode and its bytes give it. -/
def MemFormsOf (m : Mnemonic) (forms : Byte → Addr → List (Instr × MemOperand)) : Prop :=
  ∀ b w, ∀ io ∈ forms b w, io.1.mnemonic = m ∧ memOperandOf io.1 = io.2

theorem storeClass_unmapped {m : MemOperand} {s : State} {ea : Addr} (v : Byte) (h : m.ea s = .ok ea)
    (hnone : s.decodeAddr ea = none) : storeClass m v s = .error (.unmappedAddress ea) := by
  rw [storeClass, h, ok_bind, memWrite_unmapped v hnone]

theorem modify_unmapped {m : MemOperand} {s : State} {ea : Addr} (f : Byte → State → Byte × State) (h : m.ea s = .ok ea)
    (hnone : s.decodeAddr ea = none) : modify (.mem m) f s = .error (.unmappedAddress ea) := by
  simp only [modify, h, ok_bind, memRead_unmapped hnone, error_bind]

/-- A body that stores or modifies memory raises when its effective address is unmapped. -/
theorem bodyOf_mem_error {i : Instr} {s t : State} {ea : Addr} (hcls : i.cls = .store ∨ i.cls = .readModifyWrite)
    (h : (memOperandOf i).ea t = .ok ea) (hnone : t.decodeAddr ea = none) :
    bodyOf i s t = .error (.unmappedAddress ea) := by
  unfold bodyOf
  cases hm : i.mnemonic with
  | sta | stx | sty => exact storeClass_unmapped _ h hnone
  | inc | dec => exact modify_unmapped _ h hnone
  | asl | lsr | rol | ror =>
    have hacc : i.mode ≠ .acc := fun hacc => by simp [Instr.cls, hm, hacc] at hcls
    simp only [rmwOperandOf, if_neg hacc]
    exact modify_unmapped _ h hnone
  | _ => simp [Instr.cls, hm] at hcls

/-- The opcode bytes and the UnmappedAddress clause of the memory forms of a mnemonic. -/
theorem memForms_of_mnemonic {m : Mnemonic} {forms : Byte → Addr → List (Instr × MemOperand)} {opcodes : List Byte}
    (hcls : ∀ i : Instr, i.mnemonic = m → i.cls = .store ∨ i.cls = .readModifyWrite) (hforms : MemFormsOf m forms)
    (hops : ∀ b w, (forms b w).map (fun io => (encode io.1).head?) = opcodes.map some) : MemForms forms opcodes := by
  refine fun s b w => ⟨hops b w, fun io hio ea hea hnone => ?_⟩
  obtain ⟨hm, ho⟩ := hforms b w io hio
  have hea' : (memOperandOf io.1).ea (s.setPc (s.pcAfter io.1)) = .ok ea := by rw [ho, ea_setPc, hea]
  exact exec_of_body_error (bodyOf_mem_error (hcls io.1 hm) hea' hnone)

/-! ## Stores (41_load_store_transfer.md R143 to R145) -/

/-- A store at a mapped address advances and changes memory by that one store. -/
theorem exec_store {i : Instr} {m : MemOperand} {s : State} {v : Byte} {ea : Addr}
    (hbody : bodyOf i s (s.setPc (s.pcAfter i)) = storeClass m v (s.setPc (s.pcAfter i))) (hea : m.ea s = .ok ea)
    (hmapped : s.decodeAddr ea ≠ none) :
    ∃ t, exec i s = .next t ∧ { t with mem := s.mem } = after i s ∧ CpuStored s t ea v := by
  obtain ⟨r, hr⟩ := Option.ne_none_iff_exists'.mp hmapped
  have hstore := storeClass_ok (v := v) ((ea_setPc m s (s.pcAfter i)).trans hea) hr
  refine ⟨_, exec_of_body_ok (hbody.trans hstore), ?_, cpuStored_cpuStore (s := s.setPc (s.pcAfter i)) v hr⟩
  rw [cpuStore_eq]
  rfl

theorem memFormsOf_sta : MemFormsOf .sta staForms := by
  intro b w
  have hw := hilo_hiByte_loByte w
  simp only [staForms, List.forall_mem_cons]
  exact ⟨⟨rfl, rfl⟩, ⟨rfl, rfl⟩, ⟨rfl, congrArg MemOperand.abs hw⟩, ⟨rfl, rfl⟩, ⟨rfl, rfl⟩,
    ⟨rfl, congrArg MemOperand.absy hw⟩, ⟨rfl, congrArg MemOperand.absx hw⟩, List.forall_mem_nil _⟩

theorem memFormsOf_stx : MemFormsOf .stx stxForms := by
  intro b w
  simp only [stxForms, List.forall_mem_cons]
  exact ⟨⟨rfl, rfl⟩, ⟨rfl, congrArg MemOperand.abs (hilo_hiByte_loByte w)⟩, ⟨rfl, rfl⟩, List.forall_mem_nil _⟩

theorem memFormsOf_sty : MemFormsOf .sty styForms := by
  intro b w
  simp only [styForms, List.forall_mem_cons]
  exact ⟨⟨rfl, rfl⟩, ⟨rfl, congrArg MemOperand.abs (hilo_hiByte_loByte w)⟩, ⟨rfl, rfl⟩, List.forall_mem_nil _⟩

/-- Settles O3: every form is the mnemonic's one body at the form's operand. -/
theorem staStoresAccumulator : Obligations.StaStoresAccumulator := by
  refine ⟨memForms_of_mnemonic (fun i hm => .inl (by simp only [Instr.cls, hm])) memFormsOf_sta fun b w => rfl,
    fun s b w ea io hio => exec_store ?_⟩
  obtain ⟨hm, ho⟩ := memFormsOf_sta b w io hio
  have hbody : bodyOf io.1 s = sta io.2 := by simp only [bodyOf, hm, ho]
  exact congrFun hbody _

/-- Settles O4: the same of the two index registers. -/
theorem stxStyStoreIndexRegisters : Obligations.StxStyStoreIndexRegisters := by
  refine ⟨memForms_of_mnemonic (fun i hm => .inl (by simp only [Instr.cls, hm])) memFormsOf_stx fun b w => rfl,
    memForms_of_mnemonic (fun i hm => .inl (by simp only [Instr.cls, hm])) memFormsOf_sty fun b w => rfl,
    fun s b w ea io hio => exec_store ?stx, fun s b w ea io hio => exec_store ?sty⟩
  case stx =>
    obtain ⟨hm, ho⟩ := memFormsOf_stx b w io hio
    have hbody : bodyOf io.1 s = stx io.2 := by simp only [bodyOf, hm, ho]
    exact congrFun hbody _
  case sty =>
    obtain ⟨hm, ho⟩ := memFormsOf_sty b w io hio
    have hbody : bodyOf io.1 s = sty io.2 := by simp only [bodyOf, hm, ho]
    exact congrFun hbody _

/-! ## Transfers (41_load_store_transfer.md R146 to R151) -/

/-- An instruction whose body ends with setNZ sets Z and N in the state its body left before that. -/
theorem exec_of_body_setNZ {i : Instr} {s t : State} {v : Byte}
    (h : bodyOf i s (s.setPc (s.pcAfter i)) = .ok (setNZ v t)) :
    exec i s = .next { t with p := withNZ t v t.p, cycles := s.cycles + nominalCost s.params i.opcode } := by
  rw [exec_of_body_ok h, setNZ_eq_withNZ]
  rfl

/-- Settles O5: each body is one register update, and for all but TXS setNZ after it. -/
theorem transfersCopyOneRegister : Obligations.TransfersCopyOneRegister := by
  refine ⟨rfl, fun s => ⟨?tax, ?tay, ?txa, ?tya, ?tsx, ?txs⟩⟩
  case tax => exact exec_of_body_setNZ (i := .tax) (s := s) rfl
  case tay => exact exec_of_body_setNZ (i := .tay) (s := s) rfl
  case txa => exact exec_of_body_setNZ (i := .txa) (s := s) rfl
  case tya => exact exec_of_body_setNZ (i := .tya) (s := s) rfl
  case tsx => exact exec_of_body_setNZ (i := .tsx) (s := s) rfl
  case txs => exact exec_of_body_ok (i := .txs) (s := s) rfl

end Sys2Proof.Machine
end

section
/-! PROOFS. Stack instructions (42_stack.md): the pushed and the restored flags in the statements' arithmetic; what an
instruction that pushes one byte does; and PHA, PHP, PLA and PLP. -/

namespace Sys2Proof.Machine

open Sys2Proof.Claim

/-! ## The packed byte (10_state.md R16, R17) -/

/-- The bits of the packed byte at their places, as a sum. -/
theorem pack_eq_ofNat (p : Flags) :
    p.pack = BitVec.ofNat 8 (128 * bit p.n + 64 * bit p.v + 32 * bit p.r + 16 * bit p.b + 8 * bit p.d + 4 * bit p.i +
      2 * bit p.z + bit p.c) := by
  obtain ⟨n, v, r, b, d, i, z, c⟩ := p
  revert n v r b d i z c
  decide +kernel

/-- The byte PHP and BRK push is the statements'. -/
theorem pushedFlags_eq_pushedByte (s : State) : pushedFlags s = pushedByte s.p := by
  rw [pushedFlags_eq, pack_eq_ofNat]
  rfl

/-- What PLP and RTI restore is the statements' flags. -/
theorem restoreFlags_eq_pulledFlags (v : Byte) (s : State) : restoreFlags v s = s.setP (pulledFlags v s.p) := by
  simp only [restoreFlags_eq, pulledFlags, ← BitVec.testBit_toNat, Nat.testBit_eq_decide_div_mod_eq, Nat.reducePow,
    Nat.div_one]

/-! ## Pushes (42_stack.md R160, R161) -/

/-- An instruction whose body pushes one byte advances, and changes SP and the byte SP designated. -/
theorem exec_of_body_push {i : Instr} {s : State} {v : Byte}
    (hbody : bodyOf i s (s.setPc (s.pcAfter i)) = push v (s.setPc (s.pcAfter i))) :
    ∃ t, exec i s = .next t ∧ { t with mem := s.mem } = { after i s with sp := s.sp - 1 } ∧
      ReadsAfter s t [(stackAt s s.sp, v)] :=
  ⟨_, exec_of_body_ok (hbody.trans (push_eq v _)), rfl, readsAfter_push s v⟩

/-- Settles O6: each body is one push. -/
theorem phaPhpPushOneByte : Obligations.PhaPhpPushOneByte := by
  refine ⟨rfl, rfl, fun s => ⟨exec_of_body_push (i := .pha) rfl, exec_of_body_push (i := .php) ?php⟩⟩
  case php => exact congrArg (push · _) (pushedFlags_eq_pushedByte (s.setPc (s.pcAfter .php)))

/-! ## Pulls (42_stack.md R162, R163) -/

theorem pla_ok {s t : State} {v : Byte} (h : pull s = .ok (v, t)) : pla s = .ok (setNZ v (t.setA v)) := by
  rw [pla, h, ok_bind]

theorem plp_ok {s t : State} {v : Byte} (h : pull s = .ok (v, t)) : plp s = .ok (t.setP (pulledFlags v t.p)) := by
  rw [← restoreFlags_eq_pulledFlags, plp, h, ok_bind]

/-- Settles O7: the body is one pull, A set to the byte pulled, and setNZ. -/
theorem plaPullsAccumulator : Obligations.PlaPullsAccumulator :=
  ⟨rfl, fun s => ⟨_, memRead_stackAt s (s.sp + 1), exec_of_body_setNZ (i := .pla) (pla_ok (pull_eq _))⟩⟩

/-- Settles O8: the body is one pull, and the write of the six flags from the byte pulled. -/
theorem plpRestoresSixFlags : Obligations.PlpRestoresSixFlags :=
  ⟨rfl, fun s => ⟨_, memRead_stackAt s (s.sp + 1), exec_of_body_ok (i := .plp) (plp_ok (pull_eq _))⟩⟩

end Sys2Proof.Machine
end

section
/-! PROOFS. ALU instructions (43_alu.md): the flags of a sum, of a comparison and of BIT in the statements' arithmetic; the
operand families of the nine mnemonics; and what each class of body does to A and the flags. -/

namespace Sys2Proof.Machine

open Sys2Proof.Claim

/-! ## The operand families -/

/-- A family is of mnemonic `m` when each form, its address operand spelled as its two bytes, has the operand its mode
gives it. -/
theorem readFormsOf_of_map {m : Mnemonic} {forms : Byte → Byte → Addr → List (Instr × ReadOperand)}
    (h : ∀ k b w, (forms k b w).map (fun io => (io.1.mnemonic, readOperandOf io.1)) =
      (forms k b (hilo (hiByte w) (loByte w))).map (fun io => (m, io.2))) : ReadFormsOf m forms := by
  intro k b w io hio
  have hmap := h k b w
  rw [hilo_hiByte_loByte] at hmap
  exact Prod.mk_inj.mp (List.map_inj_left.mp hmap io hio)

theorem readFormsOf_adc : ReadFormsOf .adc adcForms := readFormsOf_of_map fun _ _ _ => rfl
theorem readFormsOf_sbc : ReadFormsOf .sbc sbcForms := readFormsOf_of_map fun _ _ _ => rfl
theorem readFormsOf_and : ReadFormsOf .and andForms := readFormsOf_of_map fun _ _ _ => rfl
theorem readFormsOf_ora : ReadFormsOf .ora oraForms := readFormsOf_of_map fun _ _ _ => rfl
theorem readFormsOf_eor : ReadFormsOf .eor eorForms := readFormsOf_of_map fun _ _ _ => rfl
theorem readFormsOf_cmp : ReadFormsOf .cmp cmpForms := readFormsOf_of_map fun _ _ _ => rfl
theorem readFormsOf_cpx : ReadFormsOf .cpx cpxForms := readFormsOf_of_map fun _ _ _ => rfl
theorem readFormsOf_cpy : ReadFormsOf .cpy cpyForms := readFormsOf_of_map fun _ _ _ => rfl
theorem readFormsOf_bit : ReadFormsOf .bit fun _ b w => bitForms b w := readFormsOf_of_map fun _ _ _ => rfl

/-- Every form of a family runs its mnemonic's one body at the form's operand. -/
theorem ReadFormsOf.bodyOf_eq {mn : Mnemonic} {forms : Byte → Byte → Addr → List (Instr × ReadOperand)}
    {body : Instr → ReadOperand → State → Except Raise State} {s : State} {k b : Byte} {w : Addr}
    {io : Instr × ReadOperand} (hforms : ReadFormsOf mn forms)
    (hbody : ∀ i : Instr, i.mnemonic = mn → bodyOf i s = body i (readOperandOf i))
    (hio : io ∈ forms k b w) : bodyOf io.1 s = body io.1 io.2 := by
  obtain ⟨hm, ho⟩ := hforms k b w io hio
  rw [hbody io.1 hm, ho]

/-! ## Addition (43_alu.md R170, R173) -/

/-- The sum of the accumulator, the operand and the carry, as a number. -/
def carrySum (a m : Byte) (c : Bool) : Nat := a.toNat + m.toNat + bit c

/-- The operands share a sign that the result byte lacks. -/
def signLost (a m r : Byte) : Bool := decide (a.msb = m.msb ∧ r.msb ≠ a.msb)

theorem bit_le_one (c : Bool) : bit c ≤ 1 := by cases c <;> decide

theorem sum9_toNat (a m : Byte) (c : Bool) : (sum9 a m c).toNat = carrySum a m c := by
  have hc : (BitVec.ofBool c).toNat = bit c := by cases c <;> rfl
  have hbit := bit_le_one c
  simp only [sum9, carrySum, BitVec.toNat_add, BitVec.toNat_setWidth, hc]
  omega

theorem setWidth_sum9 (a m : Byte) (c : Bool) : (sum9 a m c).setWidth 8 = BitVec.ofNat 8 (carrySum a m c) :=
  BitVec.eq_of_toNat_eq (by rw [BitVec.toNat_setWidth, sum9_toNat, BitVec.toNat_ofNat])

theorem sum9_carryOut (a m : Byte) (c : Bool) : (sum9 a m c).getLsbD 8 = decide (256 ≤ carrySum a m c) := by
  have hlt := (sum9 a m c).isLt
  rw [sum9_toNat] at hlt
  rw [← BitVec.testBit_toNat, sum9_toNat, Nat.testBit_eq_decide_div_mod_eq, decide_eq_decide]
  omega

theorem msb_overflow_eq_signLost (a m r : Byte) : ((a ^^^ r) &&& (m ^^^ r)).msb = signLost a m r := by
  rw [BitVec.msb_and, BitVec.msb_xor, BitVec.msb_xor, signLost]
  cases a.msb <;> cases m.msb <;> cases r.msb <;> rfl

/-- `AddWithCarry` in the statements' arithmetic. -/
theorem addWithCarry_eq_withSum (a m : Byte) (s : State) :
    addWithCarry a m s =
      { s with
        a := BitVec.ofNat 8 (carrySum a m s.p.c)
        p := withSum s (decide (256 ≤ carrySum a m s.p.c)) (signLost a m (BitVec.ofNat 8 (carrySum a m s.p.c)))
          (BitVec.ofNat 8 (carrySum a m s.p.c)) s.p } := by
  rw [addWithCarry_eq, setWidth_sum9, sum9_carryOut, msb_overflow_eq_signLost, beq_zero_eq_decide_toNat,
    BitVec.msb_eq_decide]
  simp only [withSum, withCNZ, withNZ, flag_eq_flagValue]
  rfl

/-- The sign is lost exactly when the signed sum, the carry in it, leaves the range of a signed byte. -/
theorem signLost_carrySum_iff (a m : Byte) (c : Bool) :
    signLost a m (BitVec.ofNat 8 (carrySum a m c)) = true ↔
      a.toInt + m.toInt + bit c < -128 ∨ 127 < a.toInt + m.toInt + bit c := by
  have ha := a.isLt
  have hm := m.isLt
  have hc := bit_le_one c
  simp only [signLost, BitVec.msb_eq_decide, BitVec.toInt_eq_toNat_cond, BitVec.toNat_ofNat, carrySum, decide_eq_true_eq,
    ne_eq, decide_eq_decide]
  split_ifs <;> omega

/-! ## Subtraction (43_alu.md R174) -/

/-- The difference of two numbers and the borrow, which is the carry's complement. -/
def borrowDiff (a m : Int) (c : Bool) : Int := a - m - (1 - bit c)

theorem toNat_complement (m : Byte) : ((m ^^^ 0xFF).toNat : Int) = 255 - m.toNat := by
  have hm := m.isLt
  rw [show m ^^^ 0xFF = ~~~m from BitVec.xor_allOnes, BitVec.toNat_not]
  omega

theorem toInt_complement (m : Byte) : (m ^^^ 0xFF).toInt = -1 - m.toInt := by
  have hm := m.isLt
  have hn := toNat_complement m
  rw [BitVec.toInt_eq_toNat_cond, BitVec.toInt_eq_toNat_cond]
  split_ifs <;> omega

/-- The sum with the complement is the difference, one turn up. -/
theorem carrySum_complement (a m : Byte) (c : Bool) :
    (carrySum a (m ^^^ 0xFF) c : Int) = borrowDiff a.toNat m.toNat c + 256 := by
  have hn := toNat_complement m
  simp only [carrySum, borrowDiff]
  omega

theorem ofNat_carrySum_complement (a m : Byte) (c : Bool) :
    (BitVec.ofNat 8 (carrySum a (m ^^^ 0xFF) c) : Byte) = BitVec.ofInt 8 (borrowDiff a.toNat m.toNat c) := by
  rw [← BitVec.ofInt_natCast, carrySum_complement, BitVec.ofInt_add]
  exact BitVec.add_zero _

theorem carryOut_complement (a m : Byte) (c : Bool) :
    decide (256 ≤ carrySum a (m ^^^ 0xFF) c) = decide (0 ≤ borrowDiff a.toNat m.toNat c) := by
  have h := carrySum_complement a m c
  rw [decide_eq_decide]
  omega

theorem signLost_complement (a m : Byte) (c : Bool) :
    signLost a (m ^^^ 0xFF) (BitVec.ofNat 8 (carrySum a (m ^^^ 0xFF) c)) =
      decide (borrowDiff a.toInt m.toInt c < -128 ∨ 127 < borrowDiff a.toInt m.toInt c) := by
  rw [Bool.eq_iff_iff, signLost_carrySum_iff, toInt_complement, decide_eq_true_eq]
  simp only [borrowDiff]
  omega

/-- Adding the complement subtracts with borrow. -/
theorem addWithCarry_complement (a m : Byte) (s : State) :
    addWithCarry a (m ^^^ 0xFF) s =
      { s with
        a := BitVec.ofInt 8 (borrowDiff a.toNat m.toNat s.p.c)
        p := withSum s (decide (0 ≤ borrowDiff a.toNat m.toNat s.p.c))
          (decide (borrowDiff a.toInt m.toInt s.p.c < -128 ∨ 127 < borrowDiff a.toInt m.toInt s.p.c))
          (BitVec.ofInt 8 (borrowDiff a.toNat m.toNat s.p.c)) s.p } := by
  rw [addWithCarry_eq_withSum, signLost_complement, carryOut_complement, ofNat_carrySum_complement]

/-! ## The decimal check (43_alu.md R171) -/

/-- The body of ADC and SBC: the operand, the decimal check, and the binary result. -/
def decimalClass (op : Byte) (pc0 : Addr) (o : ReadOperand) (f : Byte → State → State) (s : State) :
    Except Raise State := do
  let m ← o.value s
  decimalChecked op pc0 s (f m s)

theorem adc_eq_decimalClass (op : Byte) (pc0 : Addr) (o : ReadOperand) :
    adc op pc0 o = decimalClass op pc0 o fun m t => addWithCarry t.a m t := rfl

theorem sbc_eq_decimalClass (op : Byte) (pc0 : Addr) (o : ReadOperand) :
    sbc op pc0 o = decimalClass op pc0 o fun m t => addWithCarry t.a (m ^^^ 0xFF) t := rfl

section
variable {i : Instr} {o : ReadOperand} {f : Byte → State → State} {s : State} {m : Byte}

/-- A readable operand leaves the decimal check to decide. -/
theorem bodyOf_decimalClass (hbody : bodyOf i s = decimalClass i.opcode s.pc o f) (hv : Operand s o m) :
    bodyOf i s (s.setPc (s.pcAfter i)) =
      decimalChecked i.opcode s.pc (s.setPc (s.pcAfter i)) (f m (s.setPc (s.pcAfter i))) := by
  rw [hbody, decimalClass, value_setPc, value_of_operand hv, ok_bind]

/-- Under the decimal fault the instruction raises UnimplementedOpcode of its own opcode and address. -/
theorem exec_decimal_fault (hbody : bodyOf i s = decimalClass i.opcode s.pc o f) (hv : Operand s o m)
    (hd : s.p.d = true) (hfault : s.params.decimal = .fault) :
    exec i s = .next (errorTaken i (.unimplementedOpcode i.opcode s.pc) (s.params.unimpl == .skip) s) :=
  exec_of_body_error ((bodyOf_decimalClass hbody hv).trans (if_pos ⟨hd, hfault⟩))

/-- Otherwise it computes in binary. -/
theorem exec_decimal_binary (hbody : bodyOf i s = decimalClass i.opcode s.pc o f) (hv : Operand s o m)
    (hbinary : ¬ (s.p.d = true ∧ s.params.decimal = .fault)) :
    exec i s = .next ((f m (s.setPc (s.pcAfter i))).setCycles (s.cycles + nominalCost s.params i.opcode)) :=
  exec_of_body_ok ((bodyOf_decimalClass hbody hv).trans (if_neg hbinary))

end

/-- Settles O10: every form is the one body at the form's operand, and its 9-bit sum is the statement's. -/
theorem adcAddsWithCarry : Obligations.AdcAddsWithCarry := by
  refine ⟨readForms_of_mnemonic (fun i hm => by simp only [Instr.cls, hm]) readFormsOf_adc fun k b w => rfl,
    fun s k b m w io hio hv => ?_⟩
  have hbody := readFormsOf_adc.bodyOf_eq (s := s) (body := fun i => adc i.opcode s.pc)
    (fun i hm => by simp only [bodyOf, hm]) hio
  rw [adc_eq_decimalClass] at hbody
  refine ⟨exec_decimal_fault hbody hv, fun hbinary => ⟨?_, signLost_carrySum_iff s.a m s.p.c⟩⟩
  rw [exec_decimal_binary hbody hv hbinary, addWithCarry_eq_withSum]
  rfl

/-- Settles O11: every form adds the operand's complement, which subtracts with borrow. -/
theorem sbcSubtractsWithBorrow : Obligations.SbcSubtractsWithBorrow := by
  refine ⟨readForms_of_mnemonic (fun i hm => by simp only [Instr.cls, hm]) readFormsOf_sbc fun k b w => rfl,
    fun s k b m w io hio hv => ?_⟩
  have hbody := readFormsOf_sbc.bodyOf_eq (s := s) (body := fun i => sbc i.opcode s.pc)
    (fun i hm => by simp only [bodyOf, hm]) hio
  rw [sbc_eq_decimalClass] at hbody
  refine ⟨exec_decimal_fault hbody hv, fun hbinary => ?_⟩
  rw [exec_decimal_binary hbody hv hbinary, addWithCarry_complement]
  rfl

/-! ## Logic (43_alu.md R175 to R177) -/

/-- An instruction that combines A with its operand writes the result to A, and Z and N from it. -/
theorem exec_logic {i : Instr} {o : ReadOperand} {f : Byte → Byte → Byte} {s : State} {m : Byte}
    (hbody : bodyOf i s = readClass o fun m t => setNZ (f t.a m) (t.setA (f t.a m))) (hv : Operand s o m) :
    exec i s = .next { after i s with a := f s.a m, p := withNZ s (f s.a m) s.p } := by
  rw [exec_readClass hbody hv, setNZ_eq_withNZ]
  rfl

/-- Settles O12: every form is its mnemonic's one body at the form's operand. -/
theorem logicActsOnAccumulator : Obligations.LogicActsOnAccumulator := by
  refine ⟨readForms_of_mnemonic (fun i hm => by simp only [Instr.cls, hm]) readFormsOf_and fun k b w => rfl,
    readForms_of_mnemonic (fun i hm => by simp only [Instr.cls, hm]) readFormsOf_ora fun k b w => rfl,
    readForms_of_mnemonic (fun i hm => by simp only [Instr.cls, hm]) readFormsOf_eor fun k b w => rfl,
    fun s k b m w io hio => exec_logic (f := (· &&& ·)) ?and, fun s k b m w io hio => exec_logic (f := (· ||| ·)) ?ora,
    fun s k b m w io hio => exec_logic (f := (· ^^^ ·)) ?eor⟩
  case and => exact readFormsOf_and.bodyOf_eq (body := fun _ => andA) (fun i hm => by simp only [bodyOf, hm]) hio
  case ora => exact readFormsOf_ora.bodyOf_eq (body := fun _ => oraA) (fun i hm => by simp only [bodyOf, hm]) hio
  case eor => exact readFormsOf_eor.bodyOf_eq (body := fun _ => eorA) (fun i hm => by simp only [bodyOf, hm]) hio

/-! ## Comparison (43_alu.md R172, R178 to R180) -/

/-- The 16-bit difference of two bytes is their difference as an integer, with no wrap. -/
theorem diff16_toInt (r m : Byte) : (diff16 r m).toInt = (r.toNat : Int) - m.toNat := by
  have hr := r.isLt
  have hm := m.isLt
  simp only [diff16, BitVec.toInt_eq_toNat_cond, BitVec.toNat_sub, BitVec.toNat_setWidth]
  split_ifs <;> omega

theorem diff16_beq_zero (r m : Byte) : (diff16 r m == 0) = decide ((r.toNat : Int) - m.toNat = 0) := by
  rw [beq_eq_decide, decide_eq_decide, ← BitVec.toInt_inj, diff16_toInt]
  rfl

theorem diff16_bit7 (r m : Byte) : (diff16 r m).getLsbD 7 = decide (128 ≤ ((r.toNat : Int) - m.toNat) % 256) := by
  have h := diff16_toInt r m
  rw [BitVec.toInt_eq_toNat_cond] at h
  rw [← BitVec.testBit_toNat, Nat.testBit_eq_decide_div_mod_eq, decide_eq_decide, ← h]
  split_ifs <;> omega

theorem diff16_slt_zero (r m : Byte) : (diff16 r m).slt 0 = decide ((r.toNat : Int) - m.toNat < 0) := by
  rw [BitVec.slt_eq_decide, diff16_toInt]
  rfl

theorem zero_sle_diff16 (r m : Byte) : (0 : BitVec 16).sle (diff16 r m) = decide (0 ≤ (r.toNat : Int) - m.toNat) := by
  rw [BitVec.sle_eq_decide, diff16_toInt]
  rfl

/-- The carry of CMP_CARRY_REVERSED is of the difference the other way round. -/
theorem zero_sle_diff16_swap (r m : Byte) :
    (0 : BitVec 16).sle (diff16 m r) = decide ((r.toNat : Int) - m.toNat ≤ 0) := by
  rw [zero_sle_diff16, decide_eq_decide]
  omega

theorem compare_eq_withCompare (r m : Byte) (s : State) : compare r m s = { s with p := withCompare s r m s.p } := by
  rw [compare_eq, diff16_beq_zero, diff16_bit7, diff16_slt_zero, zero_sle_diff16 r m,
    zero_sle_diff16_swap r m]
  simp only [withCompare, flag_eq_flagValue]
  rfl

/-- A comparison of a register that PC and the cycles leave alone writes Z, N and C, and nothing else. -/
theorem exec_compare {i : Instr} {o : ReadOperand} {reg : State → Byte} {s : State} {m : Byte}
    (hbody : bodyOf i s = readClass o fun m t => compare (reg t) m t) (hreg : reg (s.setPc (s.pcAfter i)) = reg s)
    (hv : Operand s o m) : exec i s = .next { after i s with p := withCompare s (reg s) m s.p } := by
  rw [exec_readClass hbody hv, compare_eq_withCompare, hreg]
  rfl

/-- Settles O13: every form is its mnemonic's one body at the form's operand. -/
theorem comparesWriteFlagsOnly : Obligations.ComparesWriteFlagsOnly := by
  refine ⟨readForms_of_mnemonic (fun i hm => by simp only [Instr.cls, hm]) readFormsOf_cmp fun k b w => rfl,
    readForms_of_mnemonic (fun i hm => by simp only [Instr.cls, hm]) readFormsOf_cpx fun k b w => rfl,
    readForms_of_mnemonic (fun i hm => by simp only [Instr.cls, hm]) readFormsOf_cpy fun k b w => rfl,
    fun s k b m w io hio => exec_compare (reg := State.a) ?cmp rfl,
    fun s k b m w io hio => exec_compare (reg := State.x) ?cpx rfl,
    fun s k b m w io hio => exec_compare (reg := State.y) ?cpy rfl⟩
  case cmp => exact readFormsOf_cmp.bodyOf_eq (body := fun _ => cmpA) (fun i hm => by simp only [bodyOf, hm]) hio
  case cpx => exact readFormsOf_cpx.bodyOf_eq (body := fun _ => cpx) (fun i hm => by simp only [bodyOf, hm]) hio
  case cpy => exact readFormsOf_cpy.bodyOf_eq (body := fun _ => cpy) (fun i hm => by simp only [bodyOf, hm]) hio

/-! ## Bit test (43_alu.md R181) -/

/-- `BIT` in the statements' arithmetic. -/
theorem bitTest_eq_flags (a m : Byte) (s : State) :
    bitTest a m s = { s with
      p := { s.p with
        z := flag s.params.setOnly.z (decide ((a &&& m).toNat = 0)) s.p.z
        n := flag s.params.setOnly.n (decide (m.toNat / 128 % 2 = 1)) s.p.n
        v := flag s.params.setOnly.v (decide (m.toNat / 64 % 2 = 1)) s.p.v } } := by
  rw [bitTest_eq, beq_zero_eq_decide_toNat]
  simp only [← BitVec.testBit_toNat, Nat.testBit_eq_decide_div_mod_eq, Nat.reducePow, flag_eq_flagValue]
  rfl

/-- Settles O14: both forms are the one body at the form's operand. -/
theorem bitTestsOperandBits : Obligations.BitTestsOperandBits := by
  refine ⟨readForms_of_mnemonic (fun i hm => by simp only [Instr.cls, hm]) readFormsOf_bit fun k b w => rfl,
    fun s b m w io hio hv => ?_⟩
  have hbody := readFormsOf_bit.bodyOf_eq (s := s) (k := 0) (body := fun _ => bitA)
    (fun i hm => by simp only [bodyOf, hm]) hio
  rw [exec_readClass hbody hv, bitTest_eq_flags]
  rfl

end Sys2Proof.Machine
end

section
/-! PROOFS. Increment, decrement, shift and rotate (44_inc_dec_shift.md): the shifted bytes and the carry in the statements'
arithmetic; what a read-modify-write form does to memory, to A and to the flags, for every mnemonic of the class; and INX,
INY, DEX and DEY. -/

namespace Sys2Proof.Machine

open Sys2Proof.Claim

/-! ## The shifted bytes (44_inc_dec_shift.md R197 to R200) -/

theorem shiftLeft_one_eq_ofNat (v : Byte) : v <<< 1 = BitVec.ofNat 8 (2 * v.toNat) :=
  BitVec.eq_of_toNat_eq (by rw [BitVec.toNat_shiftLeft, BitVec.toNat_ofNat, Nat.shiftLeft_eq, Nat.mul_comm])

theorem toNat_ushiftRight_one (v : Byte) : (v >>> 1).toNat = v.toNat / 2 := by
  rw [BitVec.toNat_ushiftRight, Nat.shiftRight_eq_div_pow, Nat.pow_one]

theorem ushiftRight_one_eq_ofNat (v : Byte) : v >>> 1 = BitVec.ofNat 8 (v.toNat / 2) := by
  rw [← toNat_ushiftRight_one, BitVec.ofNat_toNat, BitVec.setWidth_eq]

theorem getLsbD_seven_eq_decide (v : Byte) : v.getLsbD 7 = decide (128 ≤ v.toNat) :=
  (BitVec.msb_eq_getLsbD_last v).symm.trans (BitVec.msb_eq_decide v)

theorem getLsbD_zero_eq_decide (v : Byte) : v.getLsbD 0 = decide (v.toNat % 2 = 1) := by
  rw [← BitVec.testBit_toNat, Nat.testBit_zero]

/-- Bytes with no bit in common are combined by adding them. -/
theorem or_eq_ofNat_add {x y : Byte} (h : x &&& y = 0) : x ||| y = BitVec.ofNat 8 (x.toNat + y.toNat) := by
  rw [← BitVec.add_eq_or_of_and_eq_zero x y h, BitVec.add_def]

theorem toNat_zextCarry (c : Bool) : (zextCarry c).toNat = bit c := by cases c <;> rfl

/-- The old carry enters at bit 0, which the shift left open. -/
theorem shiftLeft_one_or_zextCarry (v : Byte) (c : Bool) :
    v <<< 1 ||| zextCarry c = BitVec.ofNat 8 (2 * v.toNat + bit c) := by
  have hdisjoint : v <<< 1 &&& zextCarry c = 0 := by
    ext k hk
    cases k with
    | zero => simp
    | succ k => simp [zextCarry]
  rw [or_eq_ofNat_add hdisjoint, shiftLeft_one_eq_ofNat, toNat_zextCarry]
  exact BitVec.eq_of_toNat_eq (by simp only [BitVec.toNat_ofNat, Nat.mod_add_mod])

/-- The old carry enters at bit 7, which the shift left open. -/
theorem ushiftRight_one_or_zextCarry (v : Byte) (c : Bool) :
    v >>> 1 ||| zextCarry c <<< 7 = BitVec.ofNat 8 (v.toNat / 2 + 128 * bit c) := by
  have hdisjoint : v >>> 1 &&& zextCarry c <<< 7 = 0 := by
    ext k hk
    by_cases hlow : k < 7
    · simp [hlow]
    · simp [BitVec.getLsbD_of_ge v (1 + k) (by omega)]
  have hcarry : (zextCarry c <<< 7).toNat = 128 * bit c := by cases c <;> rfl
  rw [or_eq_ofNat_add hdisjoint, toNat_ushiftRight_one, hcarry]

/-! ## The carry (10_state.md R18) -/

/-- The flags of a state with C set from a condition: what `withCNZ` then sets Z and N in. -/
def withC (s : State) (c : Bool) : Flags := { s.p with c := flag s.params.setOnly.c c s.p.c }

theorem setFlag_c_eq_withC (c : Bool) (s : State) : setFlag .c c s = s.setP (withC s c) := by
  rw [setFlag_eq, withC, flag_eq_flagValue]
  rfl

theorem aslByte_eq (v : Byte) (s : State) :
    aslByte v s = (BitVec.ofNat 8 (2 * v.toNat), s.setP (withC s (decide (128 ≤ v.toNat)))) := by
  rw [aslByte, shiftLeft_one_eq_ofNat, getLsbD_seven_eq_decide, setFlag_c_eq_withC]

theorem lsrByte_eq (v : Byte) (s : State) :
    lsrByte v s = (BitVec.ofNat 8 (v.toNat / 2), s.setP (withC s (decide (v.toNat % 2 = 1)))) := by
  rw [lsrByte, ushiftRight_one_eq_ofNat, getLsbD_zero_eq_decide, setFlag_c_eq_withC]

theorem rolByte_eq (v : Byte) (s : State) :
    rolByte v s = (BitVec.ofNat 8 (2 * v.toNat + bit s.p.c), s.setP (withC s (decide (128 ≤ v.toNat)))) := by
  rw [rolByte, shiftLeft_one_or_zextCarry, getLsbD_seven_eq_decide, setFlag_c_eq_withC]

theorem rorByte_eq (v : Byte) (s : State) :
    rorByte v s = (BitVec.ofNat 8 (v.toNat / 2 + 128 * bit s.p.c), s.setP (withC s (decide (v.toNat % 2 = 1)))) := by
  rw [rorByte, ushiftRight_one_or_zextCarry, getLsbD_zero_eq_decide, setFlag_c_eq_withC]

/-! ## Read-modify-write (44_inc_dec_shift.md R190) -/

/-- An accumulator form writes its function's byte to A, sets Z and N from it, and changes no flag that its function does
not change. -/
theorem exec_modify_acc {i : Instr} {f : Byte → State → Byte × State} {s : State} {r : Byte} {q : Flags}
    (hbody : bodyOf i s = modify .acc f)
    (hf : f s.a (s.setPc (s.pcAfter i)) = (r, (s.setPc (s.pcAfter i)).setP q)) :
    exec i s = .next { after i s with a := r, p := withNZ s r q } := by
  have hok : modify .acc f (s.setPc (s.pcAfter i)) = .ok (setNZ r (((s.setPc (s.pcAfter i)).setP q).setA r)) := by
    rw [modify, State.setPc_a, hf]
  exact exec_of_body_setNZ (hbody ▸ hok)

/-- A memory form whose address is read stores its function's byte there, under the flags the function wrote. -/
theorem modify_mem_setP {m : MemOperand} {f : Byte → State → Byte × State} {s : State} {ea : Addr} {v r : Byte}
    {q : Flags} (hea : m.ea s = .ok ea) (hv : memRead s ea = .ok v) (hf : f v s = (r, s.setP q)) :
    ∃ cell, s.decodeAddr ea = some cell ∧ modify (.mem m) f s = .ok (setNZ r (cpuStore (s.setP q) cell r)) := by
  cases hcell : s.decodeAddr ea with
  | none => simp [memRead_unmapped hcell] at hv
  | some cell =>
    obtain rfl : s.mem.get (cellOf cell) = v := Except.ok.inj ((memRead_of_decode hcell).symm.trans hv)
    have hok := modify_mem_ok (f := f) hea hcell
    rw [hf] at hok
    exact ⟨cell, rfl, hok hcell⟩

/-- The memory forms of a mnemonic, each of which modifies memory at its operand through `f`. -/
def ModifyFormsOf (f : Byte → State → Byte × State) (forms : Byte → Addr → List (Instr × MemOperand)) : Prop :=
  ∀ s b w, ∀ io ∈ forms b w, bodyOf io.1 s = modify (.mem io.2) f

/-- A family modifies memory through `f` when each form, its address operand spelled as its two bytes, does. -/
theorem modifyFormsOf_of_map {f : Byte → State → Byte × State} {forms : Byte → Addr → List (Instr × MemOperand)}
    (h : ∀ s b w, (forms b w).map (fun io => bodyOf io.1 s) =
      (forms b (hilo (hiByte w) (loByte w))).map (fun io => modify (.mem io.2) f)) : ModifyFormsOf f forms := by
  intro s b w
  have hmap := h s b w
  rw [hilo_hiByte_loByte] at hmap
  exact List.map_inj_left.mp hmap

theorem modifyFormsOf_inc : ModifyFormsOf incByte incForms := modifyFormsOf_of_map fun _ _ _ => rfl
theorem modifyFormsOf_dec : ModifyFormsOf decByte decForms := modifyFormsOf_of_map fun _ _ _ => rfl
theorem modifyFormsOf_asl : ModifyFormsOf aslByte aslForms := modifyFormsOf_of_map fun _ _ _ => rfl
theorem modifyFormsOf_lsr : ModifyFormsOf lsrByte lsrForms := modifyFormsOf_of_map fun _ _ _ => rfl
theorem modifyFormsOf_rol : ModifyFormsOf rolByte rolForms := modifyFormsOf_of_map fun _ _ _ => rfl
theorem modifyFormsOf_ror : ModifyFormsOf rorByte rorForms := modifyFormsOf_of_map fun _ _ _ => rfl

section
variable {f : Byte → State → Byte × State} {forms : Byte → Addr → List (Instr × MemOperand)}

/-- The opcode bytes and the UnmappedAddress clause of a family that modifies memory. -/
theorem ModifyFormsOf.memForms {opcodes : List Byte} (hforms : ModifyFormsOf f forms)
    (hops : ∀ b w, (forms b w).map (fun io => (encode io.1).head?) = opcodes.map some) : MemForms forms opcodes := by
  refine fun s b w => ⟨hops b w, fun io hio ea hea hnone => exec_of_body_error ?_⟩
  rw [hforms s b w io hio]
  exact modify_unmapped f ((ea_setPc io.2 s _).trans hea) hnone

/-- A form whose address is readable stores its function's byte there, sets Z and N from it, and changes no flag that
its function does not change. -/
theorem ModifyFormsOf.exec_stores {s : State} {b v r : Byte} {w ea : Addr} {io : Instr × MemOperand} {q : Flags}
    (hforms : ModifyFormsOf f forms) (hio : io ∈ forms b w) (hea : io.2.ea s = .ok ea) (hv : memRead s ea = .ok v)
    (hf : f v (s.setPc (s.pcAfter io.1)) = (r, (s.setPc (s.pcAfter io.1)).setP q)) :
    ∃ t, exec io.1 s = .next t ∧ { t with mem := s.mem } = { after io.1 s with p := withNZ s r q } ∧
      CpuStored s t ea r := by
  obtain ⟨cell, hcell, hok⟩ := modify_mem_setP ((ea_setPc io.2 s (s.pcAfter io.1)).trans hea) hv hf
  have hstored := cpuStored_cpuStore (s := (s.setPc (s.pcAfter io.1)).setP q) r hcell
  refine ⟨_, exec_of_body_setNZ ((congrFun (hforms s b w io hio) _).trans hok), ?_, hstored⟩
  rw [cpuStore_eq]
  rfl

end

/-! ## Increment and decrement (44_inc_dec_shift.md R191 to R196) -/

/-- Settles O15: each form is the read-modify-write of its operand, by a function that leaves the flags alone. -/
theorem incDecModifyMemory : Obligations.IncDecModifyMemory :=
  ⟨modifyFormsOf_inc.memForms fun _ _ => rfl, modifyFormsOf_dec.memForms fun _ _ => rfl,
    fun s _ _ _ _ _ hio hea hv => modifyFormsOf_inc.exec_stores (q := s.p) hio hea hv rfl,
    fun s _ _ _ _ _ hio hea hv => modifyFormsOf_dec.exec_stores (q := s.p) hio hea hv rfl⟩

/-- Settles O16: each body is one register update, and setNZ after it. -/
theorem incDecIndexRegisters : Obligations.IncDecIndexRegisters := by
  refine ⟨rfl, fun s => ⟨?inx, ?iny, ?dex, ?dey⟩⟩
  case inx => exact exec_of_body_setNZ (i := .inx) (s := s) rfl
  case iny => exact exec_of_body_setNZ (i := .iny) (s := s) rfl
  case dex => exact exec_of_body_setNZ (i := .dex) (s := s) rfl
  case dey => exact exec_of_body_setNZ (i := .dey) (s := s) rfl

/-! ## Shifts and rotates (44_inc_dec_shift.md R197 to R200) -/

/-- Settles O17: each form is the one read-modify-write of A or of memory, and its byte and carry are the statement's. -/
theorem shiftsMoveABitToCarry : Obligations.ShiftsMoveABitToCarry := by
  refine ⟨rfl, rfl, modifyFormsOf_asl.memForms fun _ _ => rfl, modifyFormsOf_lsr.memForms fun _ _ => rfl,
    fun s => ?aslAcc, fun s => ?lsrAcc, fun s b v w ea io hio hea hv => ?asl, fun s b v w ea io hio hea hv => ?lsr⟩
  case aslAcc => exact exec_modify_acc (i := .aslAcc) (f := aslByte) rfl (aslByte_eq s.a _)
  case lsrAcc => exact exec_modify_acc (i := .lsrAcc) (f := lsrByte) rfl (lsrByte_eq s.a _)
  case asl => exact modifyFormsOf_asl.exec_stores hio hea hv (aslByte_eq _ _)
  case lsr => exact modifyFormsOf_lsr.exec_stores hio hea hv (lsrByte_eq _ _)

/-- Settles O18: the same of the rotates, which take the carry of the state that has only PC changed: the old one. -/
theorem rotatesPassThroughCarry : Obligations.RotatesPassThroughCarry := by
  refine ⟨rfl, rfl, modifyFormsOf_rol.memForms fun _ _ => rfl, modifyFormsOf_ror.memForms fun _ _ => rfl,
    fun s => ?rolAcc, fun s => ?rorAcc, fun s b v w ea io hio hea hv => ?rol, fun s b v w ea io hio hea hv => ?ror⟩
  case rolAcc => exact exec_modify_acc (i := .rolAcc) (f := rolByte) rfl (rolByte_eq s.a _)
  case rorAcc => exact exec_modify_acc (i := .rorAcc) (f := rorByte) rfl (rorByte_eq s.a _)
  case rol => exact modifyFormsOf_rol.exec_stores hio hea hv (rolByte_eq _ _)
  case ror => exact modifyFormsOf_ror.exec_stores hio hea hv (rorByte_eq _ _)

end Sys2Proof.Machine
end

section
/-! PROOFS. Control transfer (45_control_transfer.md): the branch target and the two addresses of an indirect jump's
pointer in the statements' arithmetic; what a sequence of pushes and a sequence of pulls do to SP and the stack; the
branches, the jumps, the subroutine call and the software interrupt with their returns, and the two round trips. -/

namespace Sys2Proof.Machine

open Sys2Proof.Claim

/-! ## Branches (45_control_transfer.md R210 to R218) -/

/-- The statements' target, a sum of integers modulo 2^16, is the model's (40_step_and_addressing.md R118). -/
theorem branchTarget_eq_ofInt (pc : Addr) (off : Byte) :
    branchTarget (pc + 2) off = BitVec.ofInt 16 ((pc.toNat : Int) + 2 + off.toInt) := by
  rw [branchTarget, sext16, BitVec.signExtend, BitVec.ofInt_add, BitVec.ofInt_add, BitVec.ofInt_natCast,
    BitVec.ofNat_toNat, BitVec.setWidth_eq]
  rfl

/-- A two-byte instruction whose body is a branch changes PC and pays its cost, taken or not. -/
theorem exec_branch {i : Instr} {s : State} {taken : Bool} {off : Byte} (hbody : bodyOf i s = branch taken off)
    (hlen : (encode i).length = 2) :
    exec i s = .next { after i s with
      pc := if taken then BitVec.ofInt 16 ((s.pc.toNat : Int) + 2 + off.toInt) else s.pc + 2 } := by
  have hpc : s.pcAfter i = s.pc + 2 := by rw [State.pcAfter, hlen]; rfl
  rw [exec_of_body_ok (congrFun hbody _), hpc]
  cases taken with
  | false => rfl
  | true => rw [State.setPc_pc, branchTarget_eq_ofInt]; rfl

/-- The body of each branch adds its offset under the condition that the statement gives it. -/
theorem bodyOf_branchForms (s : State) (off : Byte) :
    ∀ ic ∈ branchForms off s.p, bodyOf ic.1 s = branch ic.2 off ∧ (encode ic.1).length = 2 := by
  simp only [branchForms, List.forall_mem_cons]
  exact ⟨⟨rfl, rfl⟩, ⟨rfl, rfl⟩, ⟨rfl, rfl⟩, ⟨rfl, rfl⟩, ⟨rfl, rfl⟩, ⟨rfl, rfl⟩, ⟨rfl, rfl⟩, ⟨rfl, rfl⟩,
    List.forall_mem_nil _⟩

/-- Settles O19: each branch is the one body under its own condition. -/
theorem branchesAddOffsetAfterAdvance : Obligations.BranchesAddOffsetAfterAdvance := by
  refine ⟨fun _ _ => rfl, fun s off ic hic => ?_⟩
  obtain ⟨hbody, hlen⟩ := bodyOf_branchForms s off ic hic
  exact exec_branch hbody hlen

/-! ## Jumps (45_control_transfer.md R219, 40_step_and_addressing.md R115) -/

/-- The operand bytes of an address, lowest first (30_encoding.md R83). -/
theorem operandBytes_word (hi lo : Byte) : [loByte (word hi lo), hiByte (word hi lo)] = [lo, hi] := by
  rw [word_eq_hilo, loByte_hilo, hiByte_hilo]

theorem bodyOf_jmpAbs (w : Addr) (s : State) : bodyOf (.jmpAbs w) s = jmpTo w :=
  congrArg jmpTo (hilo_hiByte_loByte w)

theorem bodyOf_jmpInd (w : Addr) (s : State) : bodyOf (.jmpInd w) s = jmpThrough w :=
  congrArg jmpThrough (hilo_hiByte_loByte w)

/-- Where the high byte of the pointer at `w` is read, as the statement gives it (40_step_and_addressing.md R115). -/
def pointerHighAddr (s : State) (w : Addr) : Addr :=
  if s.params.jmpIndPageWrap then BitVec.ofNat 16 (256 * (w.toNat / 256) + (w.toNat + 1) % 256) else w + 1

/-- The masks of the page wrap keep the high byte of one address and the low byte of the other. -/
theorem pageMask_hilo (h l g m : Byte) : (hilo h l &&& 0xFF00) ||| (hilo g m &&& 0x00FF) = hilo h m := by
  have hmask : ((h ++ l) &&& (BitVec.allOnes 8 ++ 0#8)) ||| ((g ++ m) &&& (0#8 ++ BitVec.allOnes 8)) = h ++ m := by
    simp only [BitVec.and_append, BitVec.or_append, BitVec.and_allOnes, BitVec.and_zero, BitVec.or_zero, BitVec.zero_or]
  exact hmask

/-- The page wrap in the statement's arithmetic. -/
theorem pageWrap_eq_ofNat (w : Addr) :
    (w &&& 0xFF00) ||| ((w + 1) &&& 0x00FF) = BitVec.ofNat 16 (256 * (w.toNat / 256) + (w.toNat + 1) % 256) := by
  have hmod : (w + 1).toNat % 256 = (w.toNat + 1) % 256 := by bv_omega
  have hmask := pageMask_hilo (hiByte w) (loByte w) (hiByte (w + 1)) (loByte (w + 1))
  rw [hilo_hiByte_loByte, hilo_hiByte_loByte] at hmask
  rw [hmask, ← word_eq_hilo, word, hiByte_toNat, loByte_toNat, hmod]

/-- Where the pointer does not pass 0xFFFF, its target is the word of its two bytes, the low one read first. -/
theorem indirectTarget_eq {s : State} {w : Addr} (h : s.params.jmpIndPageWrap = true ∨ w ≠ 0xFFFF) :
    indirectTarget w s =
      (memRead s w >>= fun lo => memRead s (pointerHighAddr s w) >>= fun hi => .ok (word hi lo)) := by
  simp only [word_eq_hilo, indirectTarget, pointerHighAddr]
  cases hwrap : s.params.jmpIndPageWrap with
  | true => simp only [if_true, pageWrap_eq_ofNat]
  | false =>
    have hne : w ≠ 0xFFFF := h.resolve_left (by simp [hwrap])
    simp only [Bool.false_eq_true, if_false, memRead16_eq s hne]

/-- Without the page wrap a pointer at 0xFFFF would pass it (20_memory.md R48). -/
theorem indirectTarget_past_end {s : State} (h : s.params.jmpIndPageWrap = false) :
    indirectTarget 0xFFFF s = .error (.outOfBoundsAccess 0xFFFF 2) := by
  rw [indirectTarget, h]
  rfl

theorem exec_jmpInd_ok {s : State} {w target : Addr} (h : indirectTarget w s = .ok target) :
    exec (.jmpInd w) s = .next { after (.jmpInd w) s with pc := target } := by
  have hbody : bodyOf (.jmpInd w) s (s.setPc (s.pcAfter (.jmpInd w))) =
      .ok ((s.setPc (s.pcAfter (.jmpInd w))).setPc target) := by
    rw [bodyOf_jmpInd]
    exact bind_eq_ok.mpr ⟨target, h, rfl⟩
  exact exec_of_body_ok hbody

theorem exec_jmpInd_error {s : State} {w : Addr} {e : Raise} (h : indirectTarget w s = .error e) :
    exec (.jmpInd w) s = .next (errorTaken (.jmpInd w) e (skips s.params e.kind) s) := by
  have hbody : bodyOf (.jmpInd w) s (s.setPc (s.pcAfter (.jmpInd w))) = .error e := by
    rw [bodyOf_jmpInd]
    exact bind_eq_error.mpr (.inl h)
  exact exec_of_body_error hbody

/-- 0xFFFF is in the cartridge window (20_memory.md R45). -/
theorem ne_end_of_unmapped {s : State} {w : Addr} (h : s.decodeAddr w = none) : w ≠ 0xFFFF := by
  rintro rfl
  cases (busDecode_cart s.params.ppuRegMirror (a := 0xFFFF) (by decide)).symm.trans h

/-- Settles O20: the body sets PC to the operand, or to what the two pointer reads give; either read may raise. -/
theorem jmpReplacesProgramCounter : Obligations.JmpReplacesProgramCounter := by
  refine ⟨fun b1 b2 => ⟨congrArg (0x4C :: ·) (operandBytes_word b2 b1), congrArg (0x6C :: ·) (operandBytes_word b2 b1)⟩,
    fun s w => ⟨?abs, fun lo hi h hlo hhi => ?ind, fun hwrap hend => ?pastEnd, fun hnone => ?low,
      fun h hsome hnone => ?high⟩⟩
  case abs => exact exec_of_body_ok (congrFun (bodyOf_jmpAbs w s) _)
  case ind =>
    have htarget : indirectTarget w s = .ok (word hi lo) := by
      rw [indirectTarget_eq h, hlo, ok_bind]
      exact bind_eq_ok.mpr ⟨hi, hhi, rfl⟩
    exact exec_jmpInd_ok htarget
  case pastEnd =>
    subst hend
    exact exec_jmpInd_error (indirectTarget_past_end hwrap)
  case low =>
    have hraise : indirectTarget w s = .error (.unmappedAddress w) := by
      rw [indirectTarget_eq (.inr (ne_end_of_unmapped hnone)), memRead_unmapped hnone, error_bind]
    exact exec_jmpInd_error hraise
  case high =>
    obtain ⟨r, hr⟩ := Option.ne_none_iff_exists'.mp hsome
    have hraise : indirectTarget w s = .error (.unmappedAddress (pointerHighAddr s w)) := by
      rw [indirectTarget_eq h, memRead_of_decode hr, ok_bind]
      exact bind_eq_error.mpr (.inl (memRead_unmapped hnone))
    exact exec_jmpInd_error hraise

/-! ## Sequences of pushes (20_memory.md R57) -/

/-- A further push puts its byte on top of the stores before it, in work RAM. -/
theorem push_after_stores {s : State} {m : Memory} {sp : Byte} {stores : List (Addr × Byte)} (v : Byte)
    (h : ReadsAfter s (s.setMem m) stores) :
    ∃ m', push v ((s.setMem m).setSp sp) = .ok ((s.setMem m').setSp (sp - 1)) ∧
      ReadsAfter s (s.setMem m') ((stackAt s sp, v) :: stores) :=
  ⟨_, push_eq v _, readsAfter_trans (t := (s.setMem m).setSp sp) h rfl (readsAfter_push _ v)⟩

/-- A word is pushed high byte first. -/
theorem push16_stores (w : Addr) (s : State) :
    ∃ m, push16 w s = .ok ((s.setMem m).setSp (s.sp - 2)) ∧
      ReadsAfter s (s.setMem m)
        [(stackAt s (s.sp - 1), BitVec.ofNat 8 (w.toNat % 256)), (stackAt s s.sp, BitVec.ofNat 8 (w.toNat / 256))] := by
  obtain ⟨m, hhi, hreads⟩ := push_after_stores (hiByte w) (readsAfter_nil (s := s) (t := s.setMem s.mem) rfl rfl)
  obtain ⟨m', hlo, hreads'⟩ := push_after_stores (sp := s.sp - 1) (loByte w) hreads
  have hsp : s.sp - 1 - 1 = s.sp - 2 := sub_sub s.sp 1 1
  refine ⟨m', ?_, ?_⟩
  · rw [push16]
    exact bind_eq_ok.mpr ⟨_, hhi, hsp ▸ hlo⟩
  · rw [← loByte_eq_ofNat, ← hiByte_eq_ofNat]
    exact hreads'

/-! ## Subroutine call (45_control_transfer.md R220) -/

theorem bodyOf_jsr (w : Addr) (s : State) : bodyOf (.jsr w) s = jsr s.pc w :=
  congrArg (jsr s.pc) (hilo_hiByte_loByte w)

/-- Settles O21: the body is the push of a word, which changes SP and the stack, and the write of PC. -/
theorem jsrPushesReturnAddress : Obligations.JsrPushesReturnAddress := by
  refine ⟨fun b1 b2 => congrArg (0x20 :: ·) (operandBytes_word b2 b1), fun s w => ?_⟩
  obtain ⟨m, hpush, hreads⟩ := push16_stores (s.pc + 2) (s.setPc (s.pcAfter (.jsr w)))
  have hbody : bodyOf (.jsr w) s (s.setPc (s.pcAfter (.jsr w))) =
      .ok ((((s.setPc (s.pcAfter (.jsr w))).setMem m).setSp (s.sp - 2)).setPc w) := by
    rw [bodyOf_jsr]
    exact bind_eq_ok.mpr ⟨_, hpush, rfl⟩
  exact ⟨_, exec_of_body_ok hbody, rfl, hreads⟩

/-! ## Software interrupt (45_control_transfer.md R222) -/

/-- The statements' stack bytes are in work RAM (20_memory.md R56). -/
theorem decodeAddr_stackAt (s : State) (sp : Byte) :
    s.decodeAddr (stackAt s sp) = some (.wram, (s.setSp sp).stackAddr.toNat) := by
  rw [stackAt_eq_stackAddr]
  exact stackAddr_decode (s.setSp sp)

/-- Stores on the stack leave the cartridge window as it was, and the vectors with it (20_memory.md R60). -/
theorem memRead_cart_after_stack {s t : State} {slots : List (Byte × Byte)} {a : Addr} (ha : 0x4020 ≤ a.toNat)
    (h : ReadsAfter s t (slots.map fun e => (stackAt s e.1, e.2))) : memRead t a = memRead s a := by
  have hcart : s.decodeAddr a = some (.cart, a.toNat - 0x4020) := busDecode_cart _ ha
  have hmiss : (slots.map fun e => (stackAt s e.1, e.2)).find? (fun e => s.decodeAddr e.1 == s.decodeAddr a) =
      none := by
    simp [List.find?_eq_none, decodeAddr_stackAt, hcart]
  rw [h a, hmiss]

/-- The BRK vector is always readable. -/
theorem exists_brkVector_bytes (s : State) : ∃ lo hi, memRead s 0xFFFE = .ok lo ∧ memRead s 0xFFFF = .ok hi :=
  ⟨_, _, memRead_of_decode (busDecode_cart s.params.ppuRegMirror (by decide)),
    memRead_of_decode (busDecode_cart s.params.ppuRegMirror (by decide))⟩

theorem memRead16_of_reads {s : State} {a : Addr} {lo hi : Byte} (h : a ≠ 0xFFFF) (hlo : memRead s a = .ok lo)
    (hhi : memRead s (a + 1) = .ok hi) : memRead16 s a = .ok (word hi lo) := by
  rw [memRead16_eq s h, hlo, ok_bind, hhi, ok_bind, word_eq_hilo]

/-- The interrupt pushes three bytes, sets I and reads the vector, which the pushes cannot have changed. -/
theorem enterInterrupt_stores (ret : Addr) {s : State} {lo hi : Byte} (hlo : memRead s 0xFFFE = .ok lo)
    (hhi : memRead s 0xFFFF = .ok hi) :
    ∃ m, enterInterrupt ret s =
        .ok { s with mem := m, sp := s.sp - 3, p := { s.p with i := true }, pc := word hi lo } ∧
      ReadsAfter s (s.setMem m)
        [(stackAt s (s.sp - 2), pushedByte s.p), (stackAt s (s.sp - 1), BitVec.ofNat 8 (ret.toNat % 256)),
          (stackAt s s.sp, BitVec.ofNat 8 (ret.toNat / 256))] := by
  obtain ⟨m, hret, hreads⟩ := push16_stores ret s
  obtain ⟨m', hflags, hreads'⟩ := push_after_stores (sp := s.sp - 2) (pushedByte s.p) hreads
  have hsp : s.sp - 2 - 1 = s.sp - 3 := sub_sub s.sp 2 1
  have hkept {a : Addr} (ha : 0x4020 ≤ a.toNat) : memRead (s.setMem m') a = memRead s a :=
    memRead_cart_after_stack (slots := [(s.sp - 2, _), (s.sp - 1, _), (s.sp, _)]) ha hreads'
  have hvector : memRead16 (s.setMem m') 0xFFFE = .ok (word hi lo) :=
    memRead16_of_reads (by decide) ((hkept (by decide)).trans hlo) ((hkept (by decide)).trans hhi)
  refine ⟨m', ?_, hreads'⟩
  rw [enterInterrupt, hret, ok_bind, pushedFlags_eq_pushedByte]
  refine bind_eq_ok.mpr ⟨_, hsp ▸ hflags, ?_⟩
  exact bind_eq_ok.mpr ⟨_, hvector, rfl⟩

/-- Settles O23: the body is the interrupt's three pushes, the write of I, and PC from the vector. -/
theorem brkEntersInterrupt : Obligations.BrkEntersInterrupt := by
  refine ⟨fun _ => rfl, fun s pad => ?_⟩
  obtain ⟨lo, hi, hlo, hhi⟩ := exists_brkVector_bytes s
  obtain ⟨m, hbody, hreads⟩ := enterInterrupt_stores (s.pc + 2) (s := s.setPc (s.pcAfter (.brk pad))) hlo hhi
  exact ⟨_, lo, hi, exec_of_body_ok (i := .brk pad) hbody, hlo, hhi, rfl, hreads⟩

/-! ## Pulls and returns (20_memory.md R58, 45_control_transfer.md R221, R223) -/

theorem pull_of_read {s : State} {v : Byte} (h : memRead s (stackAt s (s.sp + 1)) = .ok v) :
    pull s = .ok (v, s.setSp (s.sp + 1)) := by
  rw [memRead_stackAt] at h
  rw [pull_eq, Except.ok.inj h]

/-- A word is pulled low byte first. -/
theorem pull16_of_reads {s : State} {lo hi : Byte} (hlo : memRead s (stackAt s (s.sp + 1)) = .ok lo)
    (hhi : memRead s (stackAt s (s.sp + 2)) = .ok hi) : pull16 s = .ok (word hi lo, s.setSp (s.sp + 2)) := by
  have hsp : s.sp + 1 + 1 = s.sp + 2 := add_assoc s.sp 1 1
  have hpull : pull (s.setSp (s.sp + 1)) = .ok (hi, s.setSp (s.sp + 2)) :=
    (pull_of_read (s := s.setSp (s.sp + 1)) (hsp.symm ▸ hhi)).trans (by rw [State.setSp_sp, hsp]; rfl)
  rw [word_eq_hilo, pull16, pull_of_read hlo, ok_bind]
  exact bind_eq_ok.mpr ⟨_, hpull, rfl⟩

theorem rts_of_reads {s : State} {lo hi : Byte} (hlo : memRead s (stackAt s (s.sp + 1)) = .ok lo)
    (hhi : memRead s (stackAt s (s.sp + 2)) = .ok hi) : rts s = .ok ((s.setSp (s.sp + 2)).setPc (word hi lo + 1)) := by
  rw [rts, pull16_of_reads hlo hhi, ok_bind]

/-- Settles O22: the body is the pull of a word, and the write of PC with the one after it. -/
theorem rtsReturnsPastPulledAddress : Obligations.RtsReturnsPastPulledAddress := by
  refine ⟨rfl, fun s => ?_⟩
  have hlo := memRead_stackAt s (s.sp + 1)
  have hhi := memRead_stackAt s (s.sp + 2)
  exact ⟨_, _, hlo, hhi, exec_of_body_ok (i := .rts) (rts_of_reads (s := s.setPc (s.pcAfter .rts)) hlo hhi)⟩

theorem rti_of_reads {s : State} {v lo hi : Byte} (hv : memRead s (stackAt s (s.sp + 1)) = .ok v)
    (hlo : memRead s (stackAt s (s.sp + 2)) = .ok lo) (hhi : memRead s (stackAt s (s.sp + 3)) = .ok hi) :
    rti s = .ok { s with sp := s.sp + 3, p := pulledFlags v s.p, pc := word hi lo } := by
  have hsp2 : s.sp + 1 + 1 = s.sp + 2 := add_assoc s.sp 1 1
  have hsp3 : s.sp + 1 + 2 = s.sp + 3 := add_assoc s.sp 1 2
  have hret : pull16 (restoreFlags v (s.setSp (s.sp + 1))) =
      .ok (word hi lo, { s with sp := s.sp + 3, p := pulledFlags v s.p }) := by
    rw [restoreFlags_eq_pulledFlags, ← hsp3]
    exact pull16_of_reads (s := (s.setSp (s.sp + 1)).setP _) (hsp2.symm ▸ hlo) (hsp3.symm ▸ hhi)
  rw [rti, returnFromInterrupt, pull_of_read hv, ok_bind]
  exact bind_eq_ok.mpr ⟨_, hret, rfl⟩

/-- Settles O24: the body is the pull of the flags byte, the write of the six flags, and the pull of PC. -/
theorem rtiRestoresFlagsAndCounter : Obligations.RtiRestoresFlagsAndCounter := by
  refine ⟨rfl, fun s => ?_⟩
  have hv := memRead_stackAt s (s.sp + 1)
  have hlo := memRead_stackAt s (s.sp + 2)
  have hhi := memRead_stackAt s (s.sp + 3)
  exact ⟨_, _, _, hv, hlo, hhi, exec_of_body_ok (i := .rti) (rti_of_reads (s := s.setPc (s.pcAfter .rti)) hv hlo hhi)⟩

/-! ## Round trips (95_test_vectors.md S6) -/

/-- Two stack slots are one byte only when SP is the same. -/
theorem decodeAddr_stackAt_inj {s : State} {a b : Byte} :
    s.decodeAddr (stackAt s a) = s.decodeAddr (stackAt s b) ↔ a = b := by
  refine ⟨fun h => ?_, fun h => h ▸ rfl⟩
  simp only [decodeAddr_stackAt, Option.some.injEq, Prod.mk.injEq, true_and, stackAddr_toNat, State.setSp_params,
    State.setSp_sp] at h
  exact BitVec.eq_of_toNat_eq (Nat.add_left_cancel h)

/-- A stack slot reads as the latest byte stored in it. -/
theorem memRead_stackAt_after {s t : State} {slots : List (Byte × Byte)} (hp : t.params = s.params)
    (h : ReadsAfter s t (slots.map fun e => (stackAt s e.1, e.2))) (sp : Byte) :
    memRead t (stackAt t sp) = (slots.find? fun e => e.1 == sp).elim (memRead s (stackAt s sp)) fun e => .ok e.2 := by
  have hbase : stackAt t sp = stackAt s sp := by rw [stackAt, stackAt, hp]
  rw [hbase, h]
  simp only [List.find?_map, Function.comp_def, beq_eq_decide, decodeAddr_stackAt_inj]
  cases slots.find? fun e => decide (e.1 = sp) <;> rfl

/-- The two bytes pushed of an address make it again. -/
theorem word_of_bytes (w : Addr) : word (BitVec.ofNat 8 (w.toNat / 256)) (BitVec.ofNat 8 (w.toNat % 256)) = w := by
  rw [← hiByte_eq_ofNat, ← loByte_eq_ofNat, word_eq_hilo, hilo_hiByte_loByte]

/-- The flags pushed are the flags restored, the stored B and R aside (10_state.md R16, R17). -/
theorem pulledFlags_pushedByte (p q : Flags) : pulledFlags (pushedByte p) q = { p with r := q.r, b := q.b } := by
  obtain ⟨n, v, r, b, d, i, z, c⟩ := p
  simp only [pulledFlags, pushedByte, Flags.mk.injEq]
  revert n v r b d i z c
  decide +kernel

/-- RTS pulls the word that JSR pushed. -/
theorem rts_after_jsr (s : State) (w : Addr) :
    ∃ t u, exec (.jsr w) s = .next t ∧ exec .rts t = .next u ∧ u.pc = s.pc + 3 ∧ u.sp = s.sp ∧ u.p = s.p := by
  obtain ⟨t, hjsr, hframe, hreads⟩ := jsrPushesReturnAddress.2 s w
  obtain ⟨lo, hi, hlo, hhi, hrts⟩ := rtsReturnsPastPulledAddress.2 t
  generalize hret : s.pc + 2 = ret at hreads
  have hparams : t.params = s.params := (congrArg State.params hframe :)
  have hp : t.p = s.p := (congrArg State.p hframe :)
  have hsp : t.sp = s.sp - 2 := (congrArg State.sp hframe :)
  have hsp1 : t.sp + 1 = s.sp - 1 := by bv_omega
  have hsp2 : t.sp + 2 = s.sp := by bv_omega
  have hslot := memRead_stackAt_after (slots := [(s.sp - 1, BitVec.ofNat 8 (ret.toNat % 256)),
    (s.sp, BitVec.ofNat 8 (ret.toNat / 256))]) hparams hreads
  rw [hsp1, hslot] at hlo
  have hlo' : BitVec.ofNat 8 (ret.toNat % 256) = lo := by simpa using hlo
  rw [hsp2, hslot] at hhi
  have hhi' : BitVec.ofNat 8 (ret.toNat / 256) = hi := by simpa using hhi
  have hword : word hi lo = ret := by rw [← hlo', ← hhi', word_of_bytes]
  refine ⟨t, _, hjsr, hrts, ?pc, hsp2, hp⟩
  case pc =>
    calc word hi lo + 1
      _ = s.pc + 2 + 1 := by rw [hword, hret]
      _ = s.pc + 3 := add_assoc s.pc 2 1

/-- RTI pulls the flags and the word that BRK pushed. -/
theorem rti_after_brk (s : State) (pad : Byte) :
    ∃ t u, exec (.brk pad) s = .next t ∧ exec .rti t = .next u ∧ u.pc = s.pc + 2 ∧ u.sp = s.sp ∧ u.p = s.p := by
  obtain ⟨t, _, _, hbrk, _, _, hframe, hreads⟩ := brkEntersInterrupt.2 s pad
  obtain ⟨v, lo, hi, hv, hlo, hhi, hrti⟩ := rtiRestoresFlagsAndCounter.2 t
  generalize s.pc + 2 = ret at hreads ⊢
  have hparams : t.params = s.params := (congrArg State.params hframe :)
  have hp : t.p = { s.p with i := true } := (congrArg State.p hframe :)
  have hsp : t.sp = s.sp - 3 := (congrArg State.sp hframe :)
  have hsp1 : t.sp + 1 = s.sp - 2 := by bv_omega
  have hsp2 : t.sp + 2 = s.sp - 1 := by bv_omega
  have hsp3 : t.sp + 3 = s.sp := by bv_omega
  have hslot := memRead_stackAt_after (slots := [(s.sp - 2, pushedByte s.p),
    (s.sp - 1, BitVec.ofNat 8 (ret.toNat % 256)), (s.sp, BitVec.ofNat 8 (ret.toNat / 256))]) hparams hreads
  rw [hsp1, hslot] at hv
  have hv' : pushedByte s.p = v := by simpa using hv
  rw [hsp2, hslot] at hlo
  have hlo' : BitVec.ofNat 8 (ret.toNat % 256) = lo := by simpa using hlo
  rw [hsp3, hslot] at hhi
  have hhi' : BitVec.ofNat 8 (ret.toNat / 256) = hi := by simpa using hhi
  have hword : word hi lo = ret := by rw [← hlo', ← hhi', word_of_bytes]
  have hflags : pulledFlags v t.p = s.p := by rw [← hv', pulledFlags_pushedByte, hp]
  exact ⟨t, _, hbrk, hrti, hword, hsp3, hflags⟩

/-- Settles O25: each return pulls, slot by slot, what the call before it stored. -/
theorem callAndInterruptRoundTrips : Obligations.CallAndInterruptRoundTrips := ⟨rts_after_jsr, rti_after_brk⟩

end Sys2Proof.Machine
end

section
/-! PROOFS. Flag instructions and NOP (46_flags_nop.md): what an instruction that forces one flag does, the seven that do,
and NOP. -/

namespace Sys2Proof.Machine

open Sys2Proof.Claim

/-- An instruction whose body forces one flag advances and changes that flag, whatever SET_ONLY_FLAGS holds
(10_state.md R19). -/
theorem exec_of_body_forceFlag {i : Instr} {s : State} {f : Flag} {x : Bool}
    (hbody : bodyOf i s (s.setPc (s.pcAfter i)) = .ok (forceFlag f x (s.setPc (s.pcAfter i)))) :
    exec i s = .next { after i s with p := s.p.put f x } :=
  exec_of_body_ok hbody

/-- Settles O26: each body forces its one flag. -/
theorem flagInstructionsForceOneFlag : Obligations.FlagInstructionsForceOneFlag := by
  refine ⟨rfl, fun s => ⟨?clc, ?sec, ?cli, ?sei, ?clv, ?cld, ?sed⟩⟩
  case clc => exact exec_of_body_forceFlag (i := .clc) (f := .c) (x := false) rfl
  case sec => exact exec_of_body_forceFlag (i := .sec) (f := .c) (x := true) rfl
  case cli => exact exec_of_body_forceFlag (i := .cli) (f := .i) (x := false) rfl
  case sei => exact exec_of_body_forceFlag (i := .sei) (f := .i) (x := true) rfl
  case clv => exact exec_of_body_forceFlag (i := .clv) (f := .v) (x := false) rfl
  case cld => exact exec_of_body_forceFlag (i := .cld) (f := .d) (x := false) rfl
  case sed => exact exec_of_body_forceFlag (i := .sed) (f := .d) (x := true) rfl

/-- Settles O27: the body leaves the state as it is, so only the advance is committed. -/
theorem nopOnlyAdvances : Obligations.NopOnlyAdvances :=
  ⟨rfl, fun _ => exec_of_body_ok (i := .nop) rfl⟩

end Sys2Proof.Machine
end

section
/-! PROOFS. Exceptions (60_exceptions.md): what a step that takes an error leaves, as one predicate, for each place where an
error is taken. -/

namespace Sys2Proof.Machine

/-- One truthful record of the instruction at PC is appended, and then only the halt, or the skip's PC advance and nominal
cost (60_exceptions.md R241 to R246). -/
def TakesOneError (s t : State) : Prop :=
  ∃ r : FaultRecord, r.pc = s.pc ∧ r.truthful s.params = true ∧
    (t = { s with faults := s.faults ++ [r], run := .halted r.kind } ∨
      ∃ op, memRead s s.pc = .ok op ∧ r.op = some op ∧
        t = { s with
          faults := s.faults ++ [r]
          pc := s.pc + 1 + BitVec.ofNat 16 (oplen op)
          cycles := s.cycles + nominalCost s.params op })

theorem haltOn_takesOneError {e : Raise} {op : Option Byte} {s : State}
    (hr : FaultRecord.truthful s.params ⟨e, s.pc, op⟩ = true) : TakesOneError s (haltOn e op s) :=
  ⟨_, rfl, hr, .inl rfl⟩

/-- The skip needs the opcode that was fetched: the advance and the cost are its own (60_exceptions.md R243). -/
theorem skipOn_takesOneError {e : Raise} {op : Byte} {s : State} (hop : memRead s s.pc = .ok op)
    (hr : FaultRecord.truthful s.params ⟨e, s.pc, some op⟩ = true) : TakesOneError s (skipOn e op s) :=
  ⟨_, rfl, hr, .inr ⟨op, hop, rfl, rfl⟩⟩

theorem takeError_takesOneError {e : Raise} {op : Byte} {s : State} (hop : memRead s s.pc = .ok op)
    (hr : FaultRecord.truthful s.params ⟨e, s.pc, some op⟩ = true) : TakesOneError s (takeError e op s) := by
  unfold takeError
  split
  · exact skipOn_takesOneError hop hr
  · exact haltOn_takesOneError hr

/-- An instruction fetched at PC completes with no record and Running, or takes the one error its body raised. -/
theorem exec_completes_or_takesOneError {i : Instr} {s t : State} (hrun : s.run = .running)
    (hop : memRead s s.pc = .ok i.opcode) (h : exec i s = .next t) :
    (t.faults = s.faults ∧ t.run = .running) ∨ TakesOneError s t := by
  obtain ⟨body, hexec, hlaw⟩ := exec_lawful i s
  rw [hexec] at h
  obtain ⟨u, hu, hc⟩ | ⟨e, he, hc⟩ := complete_cases i body s <;> cases hc.symm.trans h
  · have hkept := hlaw.ok _ u hu
    exact .inl ⟨hkept.faults, hkept.run.trans hrun⟩
  · have hraised := hlaw.error _ e he
    exact .inr (takeError_takesOneError hop (truthful_of_raised hraised))

/-- Settles O36: phase F and the sentinel take one error, and an instruction completes or takes one. -/
theorem errorsArePreciseAndRecordedOnce : Obligations.ErrorsArePreciseAndRecordedOnce := by
  intro s t h
  have hrun := run_of_step h
  obtain ⟨e, hf, hs⟩ | ⟨f, -, hop, hd, hs⟩ | ⟨f, i, -, hop, hd, hs⟩ := step_cases hrun
  · cases hs.symm.trans h
    exact .inr (haltOn_takesOneError (truthful_of_fetch hf s.pc))
  · cases hs.symm.trans h
    exact .inr (takeError_takesOneError hop (truthful_sentinel hd s.params s.pc))
  · obtain ⟨hopcode, -⟩ := opcode_operands_of_decodeOp hd
    exact exec_completes_or_takesOneError hrun (hopcode ▸ hop) (hs.symm.trans h)

end Sys2Proof.Machine
end

section
/-! PROOFS. The scheduler (60_exceptions.md sections 5 and 7): the first boundary where a condition holds; where a frame and
a run end; the credit and the cycles of a frame; and that a frame ends when every step costs something. -/

namespace Sys2Proof.Machine

/-! ## The first boundary within a number of turns -/

/-- `n` is the first of the numbers from `k` to `k + turns` with `p`. -/
def FirstWithin (p : Nat → Prop) (k turns n : Nat) : Prop :=
  k ≤ n ∧ n ≤ k + turns ∧ p n ∧ ∀ m, k ≤ m → m < n → ¬ p m

section
variable {p : Nat → Prop} {k turns n : Nat}

theorem firstWithin_from_zero_iff : FirstWithin p 0 turns n ↔ n ≤ turns ∧ p n ∧ ∀ m < n, ¬ p m := by
  simp [FirstWithin]

theorem firstWithin_iff_of_holds (h : p k) : FirstWithin p k turns n ↔ n = k := by
  constructor
  · rintro ⟨hle, -, -, hbefore⟩
    by_contra hne
    exact hbefore k le_rfl (by omega) h
  · rintro rfl
    exact ⟨le_rfl, by omega, h, fun m hle hlt => absurd hlt (by omega)⟩

theorem not_firstWithin_zero (h : ¬ p k) : ¬ FirstWithin p k 0 n := by
  rintro ⟨hle, hge, hn, -⟩
  obtain rfl : k = n := le_antisymm hle hge
  exact h hn

theorem firstWithin_succ_iff (h : ¬ p k) : FirstWithin p k (turns + 1) n ↔ FirstWithin p (k + 1) turns n := by
  constructor
  · rintro ⟨hle, hge, hn, hbefore⟩
    have hne : k ≠ n := fun hkn => h (hkn ▸ hn)
    exact ⟨by omega, by omega, hn, fun m hm => hbefore m (by omega)⟩
  · rintro ⟨hle, hge, hn, hbefore⟩
    refine ⟨by omega, by omega, hn, fun m hm hlt => ?_⟩
    obtain rfl | hm := hm.eq_or_lt
    · exact h
    · exact hbefore m hm hlt

end

/-! ## Where a frame ends -/

theorem frameContinues_eq_false_iff {stop : Bool} {s : State} :
    frameContinues stop s = false ↔ s.credit ≤ 0 ∨ s.run ≠ .running ∨ stop = true := by
  rw [← Bool.not_eq_true, frameContinues_iff]
  simp only [not_and_or, not_lt, ne_eq, Bool.not_eq_false]

/-- The condition of a frame's loop fails at boundary `m` of the run of frames from `s`. -/
def FrameFailsAt (stop : Nat → Bool) (s : State) (m : Nat) : Prop := frameContinues (stop m) (runState s m) = false

/-- A turn of a frame that goes on is the host's next move in a run. -/
theorem runState_succ_of_continues {stop : Bool} {s : State} {k : Nat} (h : frameContinues stop (runState s k) = true) :
    runState s (k + 1) = frameStep (runState s k) := by
  obtain ⟨hcredit, hrun, -⟩ := frameContinues_iff.mp h
  exact runTurn_continues (frameContinues_iff.mpr ⟨hcredit, hrun, rfl⟩)

section
variable {stop : Nat → Bool} {turns k : Nat} {s t : State}

theorem frameLoop_eq_some_iff_of_fails (h : FrameFailsAt stop s k) :
    frameLoop stop turns k (runState s k) = some t ↔
      ∃ n, FirstWithin (FrameFailsAt stop s) k turns n ∧ t = runState s n := by
  rw [frameLoop_ended h, Option.some_inj]
  simp only [firstWithin_iff_of_holds h, exists_eq_left]
  exact eq_comm

/-- A frame's loop ends at its first boundary where the condition fails. -/
theorem frameLoop_eq_some_iff : frameLoop stop turns k (runState s k) = some t ↔
    ∃ n, FirstWithin (FrameFailsAt stop s) k turns n ∧ t = runState s n := by
  induction turns generalizing k with
  | zero =>
    by_cases hfails : FrameFailsAt stop s k
    · exact frameLoop_eq_some_iff_of_fails hfails
    · have hc := Bool.eq_true_of_not_eq_false hfails
      simp [frameLoop, hc, not_firstWithin_zero hfails]
  | succ turns ih =>
    by_cases hfails : FrameFailsAt stop s k
    · exact frameLoop_eq_some_iff_of_fails hfails
    · have hc := Bool.eq_true_of_not_eq_false hfails
      rw [frameLoop_continues hc, ← runState_succ_of_continues hc, ih]
      simp only [firstWithin_succ_iff hfails]

end

/-! ## The credit of a frame -/

/-- A turn takes from the credit what it adds to the cycles. -/
theorem frameStep_credit_add_cycles (s : State) : (frameStep s).credit + (frameStep s).cycles = s.credit + s.cycles := by
  unfold frameStep
  split
  · simp only [State.setCredit_credit, State.setCredit_cycles]
    ring
  all_goals rfl

theorem frameLoop_credit_add_cycles {stop : Nat → Bool} {turns k : Nat} {s t : State}
    (h : frameLoop stop turns k s = some t) : t.credit + t.cycles = s.credit + s.cycles := by
  induction turns generalizing k s with
  | zero =>
    unfold frameLoop at h
    split at h <;> cases h
    rfl
  | succ turns ih =>
    unfold frameLoop at h
    split at h
    · rw [ih h, frameStep_credit_add_cycles]
    · cases h
      rfl

/-! ## A frame ends when every step costs something -/

/-- A turn halts the machine, or takes a whole cycle or more from the credit. -/
theorem frameStep_halts_or_pays {s : State} (hrun : s.run = .running) (hcost : ∀ op, 1 ≤ nominalCost s.params op) :
    (frameStep s).run ≠ .running ∨ (frameStep s).credit ≤ s.credit - 1 := by
  obtain ⟨t, ht⟩ := runningMachineAlwaysSteps s hrun
  obtain ⟨hpaid, -⟩ := cyclesAddNominalCost s t ht
  rw [frameStep_of_step ht]
  by_cases htrun : t.run = .running
  · obtain ⟨op, -, hcycles⟩ := hpaid htrun
    have hone : (1 : Rat) ≤ nominalCost s.params op := mod_cast hcost op
    right
    rw [State.setCredit_credit, hcycles]
    push_cast
    linarith
  · exact .inl htrun

/-- The loop ends, by induction on a bound of the credit. -/
theorem exists_frameLoop_eq_some {stop : Nat → Bool} {s : State} {bound k : Nat}
    (hcost : ∀ op, 1 ≤ nominalCost s.params op) (hbound : s.credit ≤ bound) :
    ∃ turns t, frameLoop stop turns k s = some t := by
  induction bound generalizing s k with
  | zero => exact ⟨0, s, frameLoop_ended (frameContinues_eq_false_iff.mpr (.inl (mod_cast hbound)))⟩
  | succ bound ih =>
    cases hc : frameContinues (stop k) s with
    | false => exact ⟨0, s, frameLoop_ended hc⟩
    | true =>
      obtain ⟨-, hrun, -⟩ := frameContinues_iff.mp hc
      obtain hhalt | hpaid := frameStep_halts_or_pays hrun hcost
      · have hended := frameContinues_eq_false_iff (stop := stop (k + 1)).mpr (.inr (.inl hhalt))
        exact ⟨1, frameStep s, (frameLoop_continues hc).trans (frameLoop_ended hended)⟩
      · have hle : (frameStep s).credit ≤ bound := by
          push_cast at hbound
          linarith
        obtain ⟨turns, t, ht⟩ := ih (k := k + 1) (by rwa [frameStep_params]) hle
        exact ⟨turns + 1, t, (frameLoop_continues hc).trans ht⟩

/-- Settles O56: the balance of credit and cycles, the loop's first failing boundary, and the credit's bound. -/
theorem frameSpendsItsCredit : Obligations.FrameSpendsItsCredit := by
  intro stop s
  refine ⟨fun turns t h => ⟨?credit, ?boundaries⟩, fun hcost => ?ends⟩
  case credit =>
    have hbalance : t.credit + t.cycles = s.credit + s.params.frameBudget.val + s.cycles :=
      frameLoop_credit_add_cycles h
    linarith
  case boundaries =>
    obtain ⟨n, hfirst, rfl⟩ := frameLoop_eq_some_iff.mp h
    obtain ⟨hn, hfails, hbefore⟩ := firstWithin_from_zero_iff.mp hfirst
    exact ⟨n, hn, rfl, fun m hm => frameContinues_iff.mp (Bool.eq_true_of_not_eq_false (hbefore m hm)),
      frameContinues_eq_false_iff.mp hfails⟩
  case ends =>
    obtain ⟨bound, hbound⟩ := exists_nat_ge (frameBegin s).credit
    obtain ⟨turns, t, ht⟩ := exists_frameLoop_eq_some (stop := stop) (s := frameBegin s) (k := 0) hcost hbound
    exact ⟨t, turns, ht⟩

/-! ## Where a run ends -/

/-- One of the three ends holds at point `m` of the run of frames from `s`. -/
def RunEndsAt (endPc : Option Addr) (stop : Nat → Bool) (s : State) (m : Nat) : Prop :=
  runEnd? endPc (stop m) (runState s m) ≠ none

section
variable {endPc : Option Addr} {stop : Nat → Bool} {turns k : Nat} {s : State}

/-- A loop at a point where an end holds ends there, for any number of turns. -/
theorem runUntil_of_end {e : RunEnd} (h : runEnd? endPc (stop k) s = some e) :
    runUntil endPc stop turns k s = some (e, s) := by
  cases turns <;> simp [runUntil, h]

theorem runUntil_zero_of_no_end (h : runEnd? endPc (stop k) s = none) : runUntil endPc stop 0 k s = none := by
  rw [runUntil, h, Option.map_none]

theorem runUntil_succ_of_no_end (h : runEnd? endPc (stop k) s = none) :
    runUntil endPc stop (turns + 1) k s = runUntil endPc stop turns (k + 1) (runTurn s) := by
  rw [runUntil, h]

theorem runUntil_eq_some_iff_of_end {t : State} {e : RunEnd} (h : RunEndsAt endPc stop s k) :
    runUntil endPc stop turns k (runState s k) = some (e, t) ↔
      ∃ n, FirstWithin (RunEndsAt endPc stop s) k turns n ∧ t = runState s n ∧ runEnd? endPc (stop n) t = some e := by
  obtain ⟨d, hd⟩ := Option.ne_none_iff_exists'.mp h
  rw [runUntil_of_end hd, Option.some_inj, Prod.mk.injEq]
  simp only [firstWithin_iff_of_holds h, exists_eq_left]
  constructor
  · rintro ⟨rfl, rfl⟩
    exact ⟨rfl, hd⟩
  · rintro ⟨rfl, he⟩
    exact ⟨Option.some.inj (hd.symm.trans he), rfl⟩

/-- A run ends at the first of its points where one of the ends holds, with that end. -/
theorem runUntil_eq_some_iff {t : State} {e : RunEnd} :
    runUntil endPc stop turns k (runState s k) = some (e, t) ↔
      ∃ n, FirstWithin (RunEndsAt endPc stop s) k turns n ∧ t = runState s n ∧ runEnd? endPc (stop n) t = some e := by
  induction turns generalizing k with
  | zero =>
    by_cases hends : RunEndsAt endPc stop s k
    · exact runUntil_eq_some_iff_of_end hends
    · simp [runUntil_zero_of_no_end (not_not.mp hends), not_firstWithin_zero hends]
  | succ turns ih =>
    by_cases hends : RunEndsAt endPc stop s k
    · exact runUntil_eq_some_iff_of_end hends
    · rw [runUntil_succ_of_no_end (not_not.mp hends)]
      simp only [firstWithin_succ_iff hends]
      exact ih

theorem runEnd?_at_endPc {hostStop : Bool} (hrun : s.run = .running) (hpc : endPc = some s.pc) :
    runEnd? endPc hostStop s = some .reachedEndPc := by
  simp [runEnd?, hrun, hpc]

/-- Where END_PC does not hold or is not compared, only the host's stop is left. -/
theorem runEnd?_elsewhere {hostStop : Bool} (h : (s.run = .running ∧ endPc ≠ some s.pc) ∨ s.run = .reset) :
    runEnd? endPc hostStop s = if hostStop then some .hostStopped else none := by
  obtain ⟨hrun, hpc⟩ | hrun := h
  · simp [runEnd?, hrun, hpc]
  · simp [runEnd?, hrun]

end

/-- Settles O58: the first point where an end holds, and the ends by the run state and PC. -/
theorem runEndsAtFirstBoundary : Obligations.RunEndsAtFirstBoundary := by
  intro endPc stop s
  refine ⟨fun turns e t => ?first, fun k h => runEnd?_halted, fun h => runEnd?_at_endPc, fun h => runEnd?_elsewhere⟩
  case first =>
    refine runUntil_eq_some_iff.trans (exists_congr fun n => ?_)
    simp only [firstWithin_from_zero_iff, RunEndsAt, not_not]
    constructor
    · rintro ⟨⟨hn, -, hbefore⟩, ht, he⟩
      exact ⟨hn, ht, he, hbefore⟩
    · rintro ⟨hn, rfl, he, hbefore⟩
      exact ⟨⟨hn, by simp [he], hbefore⟩, rfl, he⟩

end Sys2Proof.Machine
end

section
/-! PROOFS. The host (70_reset_and_hazards.md): what reset leaves; an image loaded into the cartridge window as memory reads
it; and the boot. -/

namespace Sys2Proof.Machine

open Sys2Proof.Claim

/-! ## Reset (R270, R271) -/

/-- The reset vector is always readable. -/
theorem exists_resetVector_bytes (s : State) : ∃ lo hi, memRead s 0xFFFC = .ok lo ∧ memRead s 0xFFFD = .ok hi :=
  ⟨_, _, memRead_of_decode (busDecode_cart s.params.ppuRegMirror (by decide)),
    memRead_of_decode (busDecode_cart s.params.ppuRegMirror (by decide))⟩

theorem readVector_resetVector_of_reads {s : State} {lo hi : Byte} (hlo : memRead s 0xFFFC = .ok lo)
    (hhi : memRead s 0xFFFD = .ok hi) : readVector s resetVector = word hi lo := by
  have hword : memRead16 s resetVector = .ok (word hi lo) := memRead16_of_reads (by decide) hlo hhi
  simp only [readVector, hword]

/-- What is read at the vector before reset is where reset starts, since reset writes no memory before it reads. -/
theorem hostReset_of_reads {s : State} {lo hi : Byte} (hlo : memRead s 0xFFFC = .ok lo)
    (hhi : memRead s 0xFFFD = .ok hi) :
    hostReset s = { s with sp := 0xFF, p := Flags.reset, pc := word hi lo, cycles := 0, run := .running } := by
  have hvector : readVector (((s.setRun .reset).setSp 0xFF).setP Flags.reset) resetVector = word hi lo :=
    readVector_resetVector_of_reads hlo hhi
  simp only [hostReset, resetFlags_eq, hvector]
  rfl

/-- Settles O54: the vector is mapped, and the rest is the five writes of reset. -/
theorem resetSetsRegistersFromVector : Obligations.ResetSetsRegistersFromVector := by
  intro s
  obtain ⟨lo, hi, hlo, hhi⟩ := exists_resetVector_bytes s
  exact ⟨lo, hi, hlo, hhi, hostReset_of_reads hlo hhi⟩

/-! ## An image in the cartridge window -/

/-- Each byte of the cartridge has one address (20_memory.md R45). -/
theorem busDecode_cart_inj {mirror : Bool} {a b : Addr} (ha : 0x4020 ≤ a.toNat)
    (h : busDecode mirror b = busDecode mirror a) : b = a := by
  rw [busDecode_cart mirror ha] at h
  have hb : 0x4020 ≤ b.toNat := (region_eq_cart_iff h).mp rfl
  rw [busDecode_cart mirror hb] at h
  simp only [Option.some.injEq, Prod.mk.injEq, true_and] at h
  exact BitVec.eq_of_toNat_eq (by omega)

theorem mem_rangeStores_iff {a : Addr} {bytes : List Byte} {e : Addr × Byte} :
    e ∈ rangeStores a bytes ↔ ∃ k, bytes[k]? = some e.2 ∧ a + BitVec.ofNat 16 k = e.1 := by
  obtain ⟨x, v⟩ := e
  simp only [rangeStores, List.mem_reverse, List.mem_map, Prod.exists, List.mem_zipIdx_iff_getElem?, Prod.mk.injEq]
  constructor
  · rintro ⟨v, k, hk, hx, rfl⟩
    exact ⟨k, hk, hx⟩
  · rintro ⟨k, hk, hx⟩
    exact ⟨v, k, hk, hx, rfl⟩

/-- Inside the 16-bit space the addresses of a range do not wrap. -/
theorem toNat_add_ofNat {a : Addr} {n k : Nat} (h : a.toNat + n ≤ 0x10000) (hk : k < n) :
    (a + BitVec.ofNat 16 k).toNat = a.toNat + k := by
  rw [BitVec.toNat_add, BitVec.toNat_ofNat]
  omega

section
variable {s t : State} {a x : Addr} {bytes : List Byte}

/-- A range in the cartridge window reads as its bytes. -/
theorem memRead_range_cart (h : ReadsAfter s t (rangeStores a bytes)) (ha : 0x4020 ≤ a.toNat)
    (hrange : a.toNat + bytes.length ≤ 0x10000) {k : Nat} {v : Byte} (hk : bytes[k]? = some v) :
    memRead t (a + BitVec.ofNat 16 k) = .ok v := by
  have hn := toNat_add_ofNat hrange (List.getElem?_eq_some_iff.mp hk).1
  have hmem : (a + BitVec.ofNat 16 k, v) ∈ rangeStores a bytes := mem_rangeStores_iff.mpr ⟨k, hk, rfl⟩
  obtain ⟨e, hfind⟩ := Option.isSome_iff_exists.mp (List.find?_isSome
    (p := fun e => s.decodeAddr e.1 == s.decodeAddr (a + BitVec.ofNat 16 k)).mpr ⟨_, hmem, beq_self_eq_true _⟩)
  have hdecode : s.decodeAddr e.1 = s.decodeAddr (a + BitVec.ofNat 16 k) := by simpa using List.find?_some hfind
  have hsame : e.1 = a + BitVec.ofNat 16 k := busDecode_cart_inj (by omega) hdecode
  obtain ⟨j, hj, he⟩ := mem_rangeStores_iff.mp (List.mem_of_find?_eq_some hfind)
  have hjn := toNat_add_ofNat hrange (List.getElem?_eq_some_iff.mp hj).1
  obtain rfl : j = k := by
    rw [he, hsame] at hjn
    omega
  rw [h, hfind]
  exact congrArg Except.ok (Option.some.inj (hj.symm.trans hk))

/-- Below a range in the cartridge window memory reads as before. -/
theorem memRead_below_range_cart (h : ReadsAfter s t (rangeStores a bytes)) (ha : 0x4020 ≤ a.toNat)
    (hrange : a.toNat + bytes.length ≤ 0x10000) (hx : x.toNat < a.toNat) : memRead t x = memRead s x := by
  have hmiss : (rangeStores a bytes).find? (fun e => s.decodeAddr e.1 == s.decodeAddr x) = none := by
    refine List.find?_eq_none.mpr fun e he hsame => ?_
    obtain ⟨j, hj, hje⟩ := mem_rangeStores_iff.mp he
    have hjn := toNat_add_ofNat hrange (List.getElem?_eq_some_iff.mp hj).1
    have hxe : x = e.1 := busDecode_cart_inj (by rw [← hje]; omega) (eq_of_beq hsame).symm
    rw [hje, ← hxe] at hjn
    omega
  rw [h x, hmiss]

/-- A bulk write in the cartridge window cannot meet an unmapped address (20_memory.md R55). -/
theorem bulkWrite_cart (ha : 0x4020 ≤ a.toNat) (hrange : a.toNat + bytes.length ≤ 0x10000) :
    bulkWrite s a bytes = .ok (storeBytes s a bytes) ∧ ReadsAfter s (storeBytes s a bytes) (rangeStores a bytes) := by
  have hmapped : ∀ k < bytes.length, s.decodeAddr (a + BitVec.ofNat 16 k) ≠ none := fun k hk => by
    have hn := toNat_add_ofNat hrange hk
    rw [State.decodeAddr, busDecode_cart _ (by omega)]
    exact Option.some_ne_none _
  refine ⟨?_, readsAfter_storeBytes hmapped⟩
  rw [bulkWrite_in_range s hrange, firstUnmapped_eq_none hmapped, Option.elim_none]

end

/-! ## The boot (R272, R275, R276) -/

section
variable {params : Params} {image : List Byte} (hbase : params.cartLoadBase = 0xC000)
include hbase

theorem boot_rejects (h : image.length = 0x8000) : boot params image = .error (.outOfBoundsAccess 0xC000 0x8000) := by
  have hload : loadProgram (construct params) image = .error (.outOfBoundsAccess 0xC000 image.length) := by
    have hne : image ≠ [] := List.ne_nil_of_length_pos (by omega)
    have hpast : 0x10000 < params.cartLoadBase.toNat + image.length := by
      rw [hbase, h]
      decide
    rw [← hbase]
    exact bulkWrite_past_end _ hne hpast
  rw [boot, hload, h, error_bind]

/-- A 16 KiB image fills the window from 0xC000 on, and the machine is reset with it loaded. -/
theorem boot_loads (h : image.length = 0x4000) :
    boot params image = .ok (hostReset (storeBytes (construct params) 0xC000 image)) ∧
      ReadsAfter (construct params) (storeBytes (construct params) 0xC000 image) (rangeStores 0xC000 image) := by
  obtain ⟨hwrite, hreads⟩ := bulkWrite_cart (s := construct params) (a := 0xC000) (bytes := image) (by decide)
    (by rw [h]; decide)
  have hload : loadProgram (construct params) image = .ok (storeBytes (construct params) 0xC000 image) := by
    rw [← hwrite, ← hbase]
    rfl
  rw [boot, hload, ok_bind]
  exact ⟨rfl, hreads⟩

end

/-- Settles O55: the load's stores are read at the vector, and the reset writes no memory. -/
theorem bootStartsAtLoadedVector : Obligations.BootStartsAtLoadedVector := by
  intro params image hbase
  refine ⟨fun h => ?_, boot_rejects hbase⟩
  obtain ⟨hboot, hreads⟩ := boot_loads hbase h
  have hrange : (0xC000 : Addr).toNat + image.length ≤ 0x10000 := by rw [h]; decide
  have hwindow : ∀ k < 0x4000, memRead (storeBytes (construct params) 0xC000 image) (0xC000 + BitVec.ofNat 16 k) =
      .ok (image.getD k 0) := fun k hk =>
    memRead_range_cart hreads (by decide) hrange (by simp [List.getD, h, hk])
  have hreset := hostReset_of_reads (hwindow 0x3FFC (by decide)) (hwindow 0x3FFD (by decide))
  have hkept := storeBytes_setMem (construct params) 0xC000 image
  refine ⟨_, hboot, ?_⟩
  rw [hreset]
  refine ⟨rfl, rfl, congrArg State.a hkept, congrArg State.x hkept, congrArg State.y hkept, hwindow,
    fun x hx => memRead_below_range_cart hreads (by decide) hrange hx⟩

end Sys2Proof.Machine
end

section
/-! PROOFS. The canonical form of memory (20_memory.md section 1): a canonical list is its cells that do not read as an
unlisted one, in rising order. -/

namespace Sys2Proof.Machine.Memory

/-- The rising order as the library's pairwise relation. -/
theorem rising_iff_pairwise (m : Memory) : m.rising = true ↔ m.Pairwise fun c d => c.1 < d.1 := by
  induction m with
  | nil => simp [Memory.rising]
  | cons c m ih => simp [Memory.rising, ih]

theorem get_eq_of_mem {m : Memory} (h : m.rising = true) {c : Host.Cell} (hc : c ∈ m) : m.get c.1 = c.2 := by
  induction m with
  | nil => cases hc
  | cons d m ih =>
    obtain ⟨hfirst, hrest⟩ := List.pairwise_cons.mp ((rising_iff_pairwise _).mp h)
    obtain rfl | hc := List.mem_cons.mp hc
    · exact if_pos rfl
    · exact (if_neg (hfirst c hc).ne).trans (ih ((rising_iff_pairwise m).mpr hrest) hc)

/-- A cell that reads as no unlisted one is listed. -/
theorem mem_of_get_ne {m : Memory} {k : Nat} (h : m.get k ≠ Params.unlistedByte) : (k, m.get k) ∈ m := by
  induction m with
  | nil => exact absurd rfl h
  | cons d m ih =>
    unfold Memory.get at h ⊢
    split at h
    next hd => simp [← hd]
    next hd => simpa [hd] using .inr (ih h)

/-- What a canonical memory lists is decided by what it reads. -/
theorem mem_iff_of_wf {m : Memory} (h : m.wf = true) (c : Host.Cell) :
    c ∈ m ↔ m.get c.1 = c.2 ∧ c.2 ≠ Params.unlistedByte := by
  simp only [Memory.wf, Bool.and_eq_true, List.all_eq_true, bne_iff_ne] at h
  obtain ⟨hrising, hlisted⟩ := h
  constructor
  · exact fun hc => ⟨get_eq_of_mem hrising hc, (hlisted c hc).2⟩
  · rintro ⟨hget, hne⟩
    have hmem : (c.1, m.get c.1) ∈ m := mem_of_get_ne (hget ▸ hne)
    rwa [hget] at hmem

/-- Settles O53: memories that read alike list the same cells, and a rising list is fixed by its cells. -/
theorem canonicalMemoriesAreEqualWhenReadAlike : Obligations.CanonicalMemoriesAreEqualWhenReadAlike := by
  intro m m' h h' hget
  have hmem : ∀ c, c ∈ m ↔ c ∈ m' := fun c => by rw [mem_iff_of_wf h, mem_iff_of_wf h', hget]
  have hpair := (rising_iff_pairwise m).mp (Bool.and_eq_true_iff.mp h).1
  have hpair' := (rising_iff_pairwise m').mp (Bool.and_eq_true_iff.mp h').1
  have hirrefl : Std.Irrefl fun c d : Host.Cell => c.1 < d.1 := ⟨fun c => lt_irrefl c.1⟩
  have hantisymm : Std.Antisymm fun c d : Host.Cell => c.1 < d.1 := ⟨fun c d hcd hdc => absurd hdc hcd.asymm⟩
  exact hpair.eq_of_mem_iff hpair' hmem

end Sys2Proof.Machine.Memory
end
